-- ==== Sys2Proof/Word.lean ====
section
/-! DEFINITION. The word types of the block and their plainest arithmetic (00_scope.md R9, 20_memory.md R60
to R67, 30_encoding.md R98). -/

namespace Sys2Proof

/-- A byte: an unsigned 8-bit value 0..255 (R9), the unit the data bus moves (R61). -/
abbrev Byte := BitVec 8

/-- The six bytes of a CDB packed into one word `W`, `cdb[0]` in bits 47..40 (R98). -/
abbrev CdbWord := BitVec 48

/-- The 21-bit logical block address field of a CDB (R98, R101). -/
abbrev Lba := BitVec 21

/-- A logical unit number, 0..7 (R7 `NUM_LUNS`, R36). -/
abbrev Lun := Fin 8

/-- `DATA_WIDTH` of R7: the data bus is eight bits wide. -/
abbrev dataWidth : Nat := 8

/-- `BLOCK_SIZE` of R7 and R62: bytes per block transfer and per sector. -/
abbrev blockSize : Nat := 256

/-- `CDB_LEN` of R7 and R98: bytes per command. -/
abbrev cdbLen : Nat := 6

/-- `NUM_LUNS` of R7: how many logical units have a sense record. -/
abbrev numLuns : Nat := 8

/-- One 256-byte sector image (R62). -/
abbrev Block := Vector Byte 256

end Sys2Proof
end

