-- ==== Sys2Proof/Config.lean ====
section
/-! DEFINITION. The configuration record of 00_scope.md R7 as plain data, the spec's defaults for it, the types
of what the Storage Collaborator answers (20_memory.md R70 to R77), and the values nothing fixes: constants with
no body (93_implementation_defined.md Part 1). -/

namespace Sys2Proof

/-- The 21 opcode bytes of R104. `select` is `OPC.SELECT`, which is optional (R240, decision D27). -/
structure Opc where
  testUnitReady : Byte
  rezeroUnit : Byte
  requestSense : Byte
  format : Byte
  read6 : Byte
  write6 : Byte
  seek : Byte
  translate : Byte
  inquiry : Byte
  modeSelect : Byte
  modeSense : Byte
  startStop : Byte
  verify : Byte
  select : Option Byte
  fcodeRead : Byte
  fcodeWrite : Byte
  vSense : Byte
  vSelect : Byte
  vPath : Byte
  vInfo : Byte
  vRead : Byte
deriving DecidableEq, Repr

/-- The default values of `OPC` (table of R104); `OPC.SELECT` is absent by default. -/
def Opc.default : Opc where
  testUnitReady := 0x00
  rezeroUnit := 0x01
  requestSense := 0x03
  format := 0x04
  read6 := 0x08
  write6 := 0x0A
  seek := 0x0B
  translate := 0x0F
  inquiry := 0x12
  modeSelect := 0x15
  modeSense := 0x1A
  startStop := 0x1B
  verify := 0x2F
  select := none
  fcodeRead := 0xC8
  fcodeWrite := 0xCA
  vSense := 0xD0
  vSelect := 0xD1
  vPath := 0xD2
  vInfo := 0xD3
  vRead := 0xD4

/-- The seven sense codes of R113. -/
structure SenseCodes where
  noSense : Byte
  notReady : Byte
  ioError : Byte
  invalidCommand : Byte
  notFound : Byte
  lunNotSupported : Byte
  transportFailure : Byte
deriving DecidableEq, Repr

/-- The default values of `SENSE` (table of R113). -/
def SenseCodes.default : SenseCodes where
  noSense := 0x00
  notReady := 0x04
  ioError := 0x11
  invalidCommand := 0x20
  notFound := 0x21
  lunNotSupported := 0x25
  transportFailure := 0x7F

/-- The configuration record of R7. The two parameters that are functions of a byte, `ID_MATCH` and `SEL_LUN`
(R93), are held as tables with one entry for each of the 256 bytes, so that a configuration is plain data and
every function of a byte is one. -/
structure Config where
  /-- `ACK_POLL_BOUND`: unsuccessful ACK polls that end a `transferBlock` wait (R156). -/
  ackPollBound : Nat
  /-- `TARGET_ID`: the SCSI id the block answers to; only an `ID_MATCH` may look at it (R93). -/
  targetId : Fin 8
  /-- `ID_MATCH`: whether a selection byte addresses this device (R93). -/
  idMatch : Vector Bool 256
  /-- `SEL_LUN`: the LUN a selection byte names (R93). -/
  selLun : Vector Lun 256
  /-- `OPC`: the opcode bytes (R104). -/
  opc : Opc
  /-- `STATUS_GOOD` (R110). -/
  statusGood : Byte
  /-- `STATUS_CHECK_CONDITION` (R110). -/
  statusCheckCondition : Byte
  /-- `MSG_COMMAND_COMPLETE` (R111). -/
  msgCommandComplete : Byte
  /-- `SENSE`: the sense codes (R113). -/
  senseCodes : SenseCodes
  /-- `INQUIRY_DATA`, whose length is `INQ_LEN` (R235). -/
  inquiryData : List Byte
  /-- Whether VERIFY copies the sectors it reads into `buf`: "`buf` may be overwritten" (R239). The model's own
  field: the spec leaves it to the implementation. -/
  verifyFillsBuf : Bool
deriving DecidableEq, Repr

/-- `INQ_LEN` of R7. -/
def Config.inqLen (c : Config) : Nat := c.inquiryData.length

/-- `ID_MATCH(b)` (R93). -/
def Config.matchesId (c : Config) (b : Byte) : Bool := c.idMatch[b.toNat]'b.isLt

/-- `SEL_LUN(b)` (R93). -/
def Config.lunOf (c : Config) (b : Byte) : Lun := c.selLun[b.toNat]'b.isLt

/-! The three error kinds and the calls' answers. -/

/-- The storage error kinds `NotFound`, `NotReady`, `IOError` (R73, R77). -/
inductive StoreErr where
  | notFound
  | notReady
  | ioError
deriving DecidableEq, Repr, Inhabited

/-- The metadata kinds of R76. -/
inductive MetaKind where
  | modeParams
  | fcode
  | vSense
  | vSelect
  | vPath
  | vInfo
  | vRead
  | translate
  | format
  | startStop
  | select
deriving DecidableEq, Repr

/-- One answer of the Storage Collaborator (R70): a record with a part for every result type, of which a call
takes the parts of its own type. An `err` turns the answer into an error for the calls that can fail. -/
structure Answer where
  /-- The Boolean of `lunExists` (R71) and `lunReady` (R72). -/
  flag : Bool
  /-- The error kind of `readSector`, `writeSector`, `metaGet`, `metaPut`; `none` is success (R73, R74, R76). -/
  err : Option StoreErr
  /-- The sector `readSector` returns on success (R73). -/
  block : Block
  /-- The byte string `metaGet` returns on success (R76). -/
  bytes : List Byte
  /-- The u32 of `lunSizeInBlocks` (R75). -/
  size : BitVec 32
deriving DecidableEq, Repr, Inhabited

/-! What nothing fixes: constants without a body. Each is an open parameter of R7 or a draw of R16. -/

/-- The open `ACK_POLL_BOUND`, less one: the bound is at least 1 (R156, U9). -/
opaque Config.openAckPollBoundPred : Nat

/-- The open `TARGET_ID` (U10). -/
opaque Config.openTargetId : Fin 8

/-- The open `ID_MATCH` (U10). -/
opaque Config.openIdMatch : Byte → Bool

/-- The open `SEL_LUN` (U10). -/
opaque Config.openSelLun : Byte → Lun

/-- The open `INQUIRY_DATA` (U13). -/
opaque Config.openInquiryData : List Byte

/-- Whether VERIFY overwrites `buf`, which R239 leaves open. -/
opaque Config.openVerifyFillsBuf : Bool

/-- What `db_out` holds at power-on: "model: a draw" (R24), visible on the wires between the first switch to output
and the first `writeDataBus` (R320, U7). -/
opaque Config.openDbOut : Byte

/-- The byte read from a data bus that nobody drives, a fresh draw each time (R135, U2). -/
opaque Config.freeByte : Nat → Byte

/-- An answer of the Storage Collaborator that no test script gives: any value of its type (R70, U14). -/
opaque Config.freeAnswer : Nat → Answer

/-- The configuration after reset: the spec's defaults where R7 has one, and the open constants elsewhere. -/
def Config.default : Config where
  ackPollBound := Config.openAckPollBoundPred + 1
  targetId := Config.openTargetId
  idMatch := Vector.ofFn fun b => Config.openIdMatch (BitVec.ofNat 8 b)
  selLun := Vector.ofFn fun b => Config.openSelLun (BitVec.ofNat 8 b)
  opc := Opc.default
  statusGood := 0x00
  statusCheckCondition := 0x02
  msgCommandComplete := 0x00
  senseCodes := SenseCodes.default
  inquiryData := Config.openInquiryData
  verifyFillsBuf := Config.openVerifyFillsBuf

/-- The instantiation every test vector of 95_test_vectors.md uses (R93): `TARGET_ID = 0`, `ID_MATCH(b)` is bit
`TARGET_ID` of `b`, `SEL_LUN(b) = b[7:5]`. The poll bound and the INQUIRY data, which a vector names itself, are
arguments. -/
def Config.testVectors (bound : Nat) (inquiry : List Byte) : Config where
  ackPollBound := bound
  targetId := 0
  idMatch := Vector.ofFn fun b => (BitVec.ofNat 8 b).getLsbD 0
  selLun := Vector.ofFn fun b => ((BitVec.ofNat 8 b).extractLsb' 5 3).toFin
  opc := Opc.default
  statusGood := 0x00
  statusCheckCondition := 0x02
  msgCommandComplete := 0x00
  senseCodes := SenseCodes.default
  inquiryData := inquiry
  verifyFillsBuf := false

end Sys2Proof
end

