-- ==== Sys2Proof/Syntax.lean ====
section
/-! DEFINITION. The commands the block interprets: one constructor per row of spec/opcode_table.json (30_encoding.md
R104, R116), each with the operand fields of the one format `CDB6` (R98). -/

namespace Sys2Proof

/-- The CDB buffer's contents `cdb[0..5]`, in order of arrival (10_state.md R32, 30_encoding.md R98). -/
structure Cdb where
  b0 : Byte
  b1 : Byte
  b2 : Byte
  b3 : Byte
  b4 : Byte
  b5 : Byte
deriving DecidableEq, Repr

/-- The operand fields of `CDB6` (table of R98), the opcode apart. -/
structure Fields where
  /-- `lun_sel`, `cdb[1][7:5]`: decoded, not used (R100). -/
  lunSel : BitVec 3
  /-- `lba`, `cdb[1][4:0] ++ cdb[2] ++ cdb[3]`. -/
  lba : Lba
  /-- `len`, `cdb[4]`. -/
  len : Byte
  /-- `control`, `cdb[5]`: ignored (R102). -/
  control : Byte
deriving DecidableEq, Repr

/-- The 21 named commands and `ILLEGAL`, the default row, which keeps the opcode byte that matched nothing. -/
inductive Instr where
  | testUnitReady (f : Fields)
  | rezeroUnit (f : Fields)
  | requestSense (f : Fields)
  | format (f : Fields)
  | read6 (f : Fields)
  | write6 (f : Fields)
  | seek (f : Fields)
  | translate (f : Fields)
  | inquiry (f : Fields)
  | modeSelect (f : Fields)
  | modeSense (f : Fields)
  | startStop (f : Fields)
  | verify (f : Fields)
  | select (f : Fields)
  | fcodeRead (f : Fields)
  | fcodeWrite (f : Fields)
  | vSense (f : Fields)
  | vSelect (f : Fields)
  | vPath (f : Fields)
  | vInfo (f : Fields)
  | vRead (f : Fields)
  | illegal (op : Byte) (f : Fields)
deriving DecidableEq, Repr

/-- The operand fields of a command, whichever it is. -/
def Instr.fields : Instr → Fields
  | .testUnitReady f => f
  | .rezeroUnit f => f
  | .requestSense f => f
  | .format f => f
  | .read6 f => f
  | .write6 f => f
  | .seek f => f
  | .translate f => f
  | .inquiry f => f
  | .modeSelect f => f
  | .modeSense f => f
  | .startStop f => f
  | .verify f => f
  | .select f => f
  | .fcodeRead f => f
  | .fcodeWrite f => f
  | .vSense f => f
  | .vSelect f => f
  | .vPath f => f
  | .vInfo f => f
  | .vRead f => f
  | .illegal _ f => f

end Sys2Proof
end

