-- ==== Sys2Proof/WellFormed.lean ====
section
/-! DEFINITION. Which configurations the spec admits and which commands have an encoding under one
(30_encoding.md R104, R106, 41_handshake.md R156, decisions D18 and D22). -/

namespace Sys2Proof

/-- Every opcode byte of the record, `OPC.SELECT` last and only where it is present. -/
def Opc.values (o : Opc) : List Byte :=
  [o.testUnitReady, o.rezeroUnit, o.requestSense, o.format, o.read6, o.write6, o.seek, o.translate, o.inquiry,
    o.modeSelect, o.modeSense, o.startStop, o.verify, o.fcodeRead, o.fcodeWrite, o.vSense, o.vSelect, o.vPath,
    o.vInfo, o.vRead] ++ o.select.toList

/-- "The values of `OPC` must be pairwise distinct" (R104). -/
abbrev Opc.distinct (o : Opc) : Prop := o.values.Nodup

/-- The failure codes a host can read back with REQUEST SENSE from a LUN that exists. -/
def SenseCodes.hostVisible (c : SenseCodes) : List Byte := [c.notReady, c.ioError, c.invalidCommand, c.notFound]

/-- What decision D22 requires of a sense table: `NO_SENSE` differs from every other code and the four
host-visible failure codes differ pairwise. -/
abbrev SenseCodes.legal (c : SenseCodes) : Prop :=
  c.noSense ∉ c.hostVisible ++ [c.lunNotSupported, c.transportFailure] ∧ c.hostVisible.Nodup

/-- A configuration the spec admits: a poll bound of at least 1 (R156), distinct opcodes (R104), a legal sense
table (D22). -/
abbrev Config.wellFormed (c : Config) : Prop := 1 ≤ c.ackPollBound ∧ c.opc.distinct ∧ c.senseCodes.legal

/-- The opcode byte of a command: `none` for `SELECT` where `OPC.SELECT` is absent (R240). -/
def Instr.opcode (o : Opc) : Instr → Option Byte
  | .testUnitReady _ => some o.testUnitReady
  | .rezeroUnit _ => some o.rezeroUnit
  | .requestSense _ => some o.requestSense
  | .format _ => some o.format
  | .read6 _ => some o.read6
  | .write6 _ => some o.write6
  | .seek _ => some o.seek
  | .translate _ => some o.translate
  | .inquiry _ => some o.inquiry
  | .modeSelect _ => some o.modeSelect
  | .modeSense _ => some o.modeSense
  | .startStop _ => some o.startStop
  | .verify _ => some o.verify
  | .select _ => o.select
  | .fcodeRead _ => some o.fcodeRead
  | .fcodeWrite _ => some o.fcodeWrite
  | .vSense _ => some o.vSense
  | .vSelect _ => some o.vSelect
  | .vPath _ => some o.vPath
  | .vInfo _ => some o.vInfo
  | .vRead _ => some o.vRead
  | .illegal op _ => some op

/-- A command that some CDB encodes under `o`: `SELECT` needs `OPC.SELECT` (R240), and `ILLEGAL` an opcode byte
that is none of the record's (R106). The widths of the fields are their types. -/
def Instr.wellFormed (o : Opc) : Instr → Bool
  | .testUnitReady _ => true
  | .rezeroUnit _ => true
  | .requestSense _ => true
  | .format _ => true
  | .read6 _ => true
  | .write6 _ => true
  | .seek _ => true
  | .translate _ => true
  | .inquiry _ => true
  | .modeSelect _ => true
  | .modeSense _ => true
  | .startStop _ => true
  | .verify _ => true
  | .select _ => o.select.isSome
  | .fcodeRead _ => true
  | .fcodeWrite _ => true
  | .vSense _ => true
  | .vSelect _ => true
  | .vPath _ => true
  | .vInfo _ => true
  | .vRead _ => true
  | .illegal op _ => !o.values.contains op

end Sys2Proof
end

