-- ==== Sys2Proof/Decode.lean ====
section
/-! DEFINITION. The decoder of the six-byte CDB and, after it, the encoder, both from the tables of 30_encoding.md
(R98 the format, R99 the operands, R104 and R221 the opcode match, R115 the assembler's forms). -/

namespace Sys2Proof

/-- The six bytes of the word `W`: `cdb[0] = W[47:40]` down to `cdb[5] = W[7:0]` (R98). -/
def Cdb.ofWord (w : CdbWord) : Cdb where
  b0 := w.extractLsb' 40 8
  b1 := w.extractLsb' 32 8
  b2 := w.extractLsb' 24 8
  b3 := w.extractLsb' 16 8
  b4 := w.extractLsb' 8 8
  b5 := w.extractLsb' 0 8

/-- The word `W = cdb[0] ++ cdb[1] ++ ... ++ cdb[5]` (R98). -/
def Cdb.toWord (c : Cdb) : CdbWord := c.b0 ++ c.b1 ++ c.b2 ++ c.b3 ++ c.b4 ++ c.b5

/-- The bytes in order of arrival: "byte `cdb[0]` crosses the bus first" (R64). -/
def Cdb.toList (c : Cdb) : List Byte := [c.b0, c.b1, c.b2, c.b3, c.b4, c.b5]

/-- `cdb[i] <- b` (R187). -/
def Cdb.write (c : Cdb) (i : Fin 6) (b : Byte) : Cdb :=
  match i with
  | 0 => { c with b0 := b }
  | 1 => { c with b1 := b }
  | 2 => { c with b2 := b }
  | 3 => { c with b3 := b }
  | 4 => { c with b4 := b }
  | 5 => { c with b5 := b }

/-- `cdb[i]` (R11). -/
def Cdb.read (c : Cdb) (i : Fin 6) : Byte :=
  match i with
  | 0 => c.b0
  | 1 => c.b1
  | 2 => c.b2
  | 3 => c.b3
  | 4 => c.b4
  | 5 => c.b5

/-- The operand fields of a CDB (table of R98): `lba` is big-endian (R64, R99). -/
def Cdb.fields (c : Cdb) : Fields where
  lunSel := c.b1.extractLsb' 5 3
  lba := c.b1.extractLsb' 0 5 ++ c.b2 ++ c.b3
  len := c.b4
  control := c.b5

/-- The opcode match of R221: the whole of byte 0 against each value of `OPC`, and `ILLEGAL` where none matches
(R106). No group bits are decoded (R105) and no field makes a CDB malformed (R102). -/
def decodeCdb (o : Opc) (c : Cdb) : Instr :=
  if c.b0 = o.testUnitReady then .testUnitReady c.fields
  else if c.b0 = o.rezeroUnit then .rezeroUnit c.fields
  else if c.b0 = o.requestSense then .requestSense c.fields
  else if c.b0 = o.format then .format c.fields
  else if c.b0 = o.read6 then .read6 c.fields
  else if c.b0 = o.write6 then .write6 c.fields
  else if c.b0 = o.seek then .seek c.fields
  else if c.b0 = o.translate then .translate c.fields
  else if c.b0 = o.inquiry then .inquiry c.fields
  else if c.b0 = o.modeSelect then .modeSelect c.fields
  else if c.b0 = o.modeSense then .modeSense c.fields
  else if c.b0 = o.startStop then .startStop c.fields
  else if c.b0 = o.verify then .verify c.fields
  else if some c.b0 = o.select then .select c.fields
  else if c.b0 = o.fcodeRead then .fcodeRead c.fields
  else if c.b0 = o.fcodeWrite then .fcodeWrite c.fields
  else if c.b0 = o.vSense then .vSense c.fields
  else if c.b0 = o.vSelect then .vSelect c.fields
  else if c.b0 = o.vPath then .vPath c.fields
  else if c.b0 = o.vInfo then .vInfo c.fields
  else if c.b0 = o.vRead then .vRead c.fields
  else .illegal c.b0 c.fields

/-- Why a byte string is no CDB. Every six-byte string is one (R106). -/
inductive DecodeReject where
  /-- Fewer than the six bytes every CDB has (R98). -/
  | tooFewBytes (n : Nat)
  /-- More than six bytes: the block asks for six and gives no REQ for a seventh (R187). -/
  | tooManyBytes (n : Nat)
deriving DecidableEq, Repr

/-- The decoder over any byte string. -/
def decode (o : Opc) (bytes : List Byte) : Except DecodeReject Instr :=
  match bytes with
  | [b0, b1, b2, b3, b4, b5] => .ok (decodeCdb o ⟨b0, b1, b2, b3, b4, b5⟩)
  | _ => if bytes.length < cdbLen then .error (.tooFewBytes bytes.length) else .error (.tooManyBytes bytes.length)

/-- The CDB whose first `nbits` bits, as the table numbers them (`cdb[0]` the most significant byte, R98, R116),
are `w`, and whose bytes after those are zero. -/
def tableCdb (nbits w : Nat) : Cdb := Cdb.ofWord (BitVec.ofNat 48 (w <<< (48 - nbits)))

/-- The command the decoder reads, with the default `OPC`, from a word of spec/opcode_table.json. -/
def decodeTableWord (nbits w : Nat) : Option Instr :=
  match decode Opc.default (tableCdb nbits w).toList with
  | .ok i => some i
  | .error _ => none

/-! The encoder. -/

/-- The CDB of an opcode byte and its operand fields, as R115 assembles it:
`[opcode, (lun_sel << 5) | lba[20:16], lba[15:8], lba[7:0], len, control]`. -/
def assemble (op : Byte) (f : Fields) : Cdb where
  b0 := op
  b1 := f.lunSel ++ f.lba.extractLsb' 16 5
  b2 := f.lba.extractLsb' 8 8
  b3 := f.lba.extractLsb' 0 8
  b4 := f.len
  b5 := f.control

/-- The CDB of a command; `none` where it has no opcode byte (`SELECT` without `OPC.SELECT`). -/
def encode (o : Opc) (i : Instr) : Option Cdb := (i.opcode o).map (assemble · i.fields)

/-! The pseudo-instructions of R115. -/

/-- The fields of a two-operand line `READ6 lba, n`, `WRITE6 lba, n`, `VERIFY lba, n`: `n mod 256`, `n` in 1..256. -/
def Fields.blocks (lba : Lba) (n : Nat) : Fields := ⟨0, lba, BitVec.ofNat 8 n, 0⟩

/-- `READ6 lba, n`. -/
def pseudoRead6 (lba : Lba) (n : Nat) : Instr := .read6 (Fields.blocks lba n)

/-- `WRITE6 lba, n`. -/
def pseudoWrite6 (lba : Lba) (n : Nat) : Instr := .write6 (Fields.blocks lba n)

/-- `VERIFY lba, n`. -/
def pseudoVerify (lba : Lba) (n : Nat) : Instr := .verify (Fields.blocks lba n)

/-- `TUR`. -/
def pseudoTur : Instr := .testUnitReady ⟨0, 0, 0, 0⟩

/-- `SENSE`: four bytes of allocation length. -/
def pseudoSense : Instr := .requestSense ⟨0, 0, 4, 0⟩

/-- `START`. -/
def pseudoStart : Instr := .startStop ⟨0, 0, 1, 0⟩

/-- `STOP`. -/
def pseudoStop : Instr := .startStop ⟨0, 0, 0, 0⟩

end Sys2Proof
end

