-- ==== Sys2Proof/Machine/State.lean ====
section
/-! DEFINITION. The state of the block (10_state.md R20 to R44) and, beside it as plain data, the parameters of the
step relation that R20 names: the configuration, the lines the host drives, the Storage Collaborator's answers and
the schedule of agents. -/

namespace Sys2Proof.Machine

/-! ### Bus lines -/

/-- The five target-driven lines, logical values: `true` is asserted, electrically low (R21). -/
structure OutLines where
  bsy : Bool
  req : Bool
  msg : Bool
  cd : Bool
  io : Bool
deriving DecidableEq, Repr

/-- All five target-driven lines de-asserted (R92, R197, R199). -/
def OutLines.released : OutLines := ⟨false, false, false, false, false⟩

/-- The data-bus direction `db_dir` (R23). -/
inductive BusDir where
  /-- The host may drive the bus and the target reads it. -/
  | input
  /-- The target drives the bus. -/
  | output
deriving DecidableEq, Repr

/-- What the host drives (R22, R25): four lines, logical values, and the data bus, `none` while it drives no byte. -/
structure HostLines where
  rst : Bool
  sel : Bool
  ack : Bool
  atn : Bool
  db : Option Byte
deriving DecidableEq, Repr

/-! ### Control state -/

/-- The phase register's eight values (R30). -/
inductive Phase where
  | busFree
  | arbSel
  | command
  | dataOut
  | dataIn
  | status
  | messageOut
  | messageIn
deriving DecidableEq, Repr

/-- A transfer direction, named from the target's side of the bus (R16): `toHost` is DataIn. -/
inductive XferDir where
  | toHost
  | fromHost
deriving DecidableEq, Repr

/-- The states of the REQ/ACK engine (R158), each naming the step it takes next. -/
inductive Hs where
  /-- `HS_IDLE`: the next step places the byte to send (WB0, TB1). -/
  | idle
  /-- `HS_DRIVE`: the byte is on the bus, the next step asserts REQ (WB1, TB2). -/
  | drive
  /-- `HS_REQ`: the next step asserts REQ for a byte from the host (RB1, TB2). -/
  | req
  /-- `HS_WAIT`: the next step polls (RB2, WB2, TB3). -/
  | wait
  /-- `HS_RELEASE`: ACK was seen, the next step de-asserts REQ (RB3, WB3, TB4). -/
  | release
  /-- `HS_SAMPLE`: the next step reads the data bus (RB4, TB4). -/
  | sample
  /-- `HS_TIMEOUT`: the poll bound is spent, the next step sets the Reset Flag (TB_TO). -/
  | timeout
  /-- `HS_ABORT`: the next step de-asserts REQ and the byte fails (RB_AB, WB_AB, TB_AB). -/
  | abort
deriving DecidableEq, Repr

/-- Where a data procedure of R205 to R208 stands. -/
inductive DataPos where
  /-- `DP0`: the phase boundary PB4. -/
  | dp0
  /-- `DP1`: the phase flags. -/
  | dp1
  /-- `DP2`: moving bytes, at this state of the engine. -/
  | dp2 (h : Hs)
deriving DecidableEq, Repr

/-- The position `k` of `SQ_HANDLER(h, k)` (R31) with the handler's local variables. The handler `h` itself is
what `cdb` decodes to. -/
inductive HandlerPos where
  /-- The storage call for block `k` comes next. -/
  | call (k : Nat)
  /-- The `metaPut` of the bytes `q` received comes next (R236). -/
  | put (q : List Byte)
  /-- Inside `dataInBlock` or `dataOutBlock` for block `k` (R205, R206). -/
  | block (dir : XferDir) (k : Nat) (p : DataPos)
  /-- Inside `dataInBytes`, the bytes `rest` still to send (R207). -/
  | bytesIn (rest : List Byte) (p : DataPos)
  /-- Inside `dataOutBytes`, `rest` bytes still to come after the bytes `q` (R208). -/
  | bytesOut (rest : Nat) (q : List Byte) (p : DataPos)
deriving DecidableEq, Repr

/-- The control state `seq`, the block's program counter (R31), each value naming the step SEQ takes next
(labels of R201). -/
inductive Seq where
  /-- `BF1` (`SQ_BUSFREE`). -/
  | bf1
  /-- `SEL1` (`SQ_SELECT`). -/
  | sel1
  /-- `SEL2` (`SQ_SELECT`). -/
  | sel2
  /-- `SEL3` (`SQ_SELECT`), with what `lunExists` answered. -/
  | sel3 (present : Bool)
  /-- `CMD1` (`SQ_COMMAND`). -/
  | cmd1
  /-- `CMD2` (`SQ_COMMAND(i)`): reading CDB byte `i`. -/
  | cmd2 (i : Fin 6) (h : Hs)
  /-- `CMD3` (`SQ_COMMAND`). -/
  | cmd3
  /-- `DISP` (`SQ_DISPATCH`): the next step is the first of the handler that `cdb` selects. -/
  | disp
  /-- `SQ_HANDLER(h, k)`: inside the handler. -/
  | handler (k : HandlerPos)
  /-- `DISP1`: `dispatch` has returned. -/
  | disp1
  /-- `STAT1` (`SQ_STATUS`). -/
  | stat1
  /-- `STAT2` (`SQ_STATUS`): sending the status byte. -/
  | stat2 (h : Hs)
  /-- `STAT3` (`SQ_STATUS`). -/
  | stat3
  /-- `MSG1` (`SQ_MESSAGE`). -/
  | msg1
  /-- `MSG2` (`SQ_MESSAGE`): sending the message byte. -/
  | msg2 (h : Hs)
  /-- `MSG3` (`SQ_MESSAGE`). -/
  | msg3
  /-- `REL` (`SQ_RELEASE`). -/
  | rel
  /-- `RST1` (`SQ_RESET`). -/
  | rst1
  /-- `RST3` (`SQ_RESET`). -/
  | rst3
deriving DecidableEq, Repr

/-! ### Memory and registers -/

/-- The block buffer as (address, byte) cells. Canonical form: addresses strictly rising, no cell that holds what
an unlisted address reads as. -/
abbrev Memory := List Host.Cell

/-- What an address that no cell lists reads as. DESIGN CHOICE, unsafe (log entry 8): the spec leaves `buf`
unspecified at reset (R33, R41). -/
def Memory.unlisted : Byte := 0

/-- The canonical form. -/
abbrev Memory.wf (m : Memory) : Prop := m.Pairwise (fun a b => a.1 < b.1) ∧ ∀ c ∈ m, c.2 ≠ Memory.unlisted

/-- A sense record `{ code, info[3] }` (R38, R112). -/
structure SenseRec where
  code : Byte
  info0 : Byte
  info1 : Byte
  info2 : Byte
deriving DecidableEq, Repr

/-- The record of a code with `info = [0, 0, 0]`, the only kind any rule writes (R112). -/
def SenseRec.ofCode (c : Byte) : SenseRec := ⟨c, 0, 0, 0⟩

/-- The cleared record `{ code = SENSE.NO_SENSE, info = [0,0,0] }` (R38). -/
def SenseRec.cleared (c : SenseCodes) : SenseRec := .ofCode c.noSense

/-! ### The collaborators' side -/

/-- A call of the Storage Collaborator, as SEQ made it (R70). -/
inductive StoreCall where
  | lunExists (id : Lun)
  | lunReady (id : Lun)
  | readSector (id : Lun) (lba : BitVec 32)
  | writeSector (id : Lun) (lba : BitVec 32) (block : List Byte)
  | lunSizeInBlocks (id : Lun)
  | metaGet (kind : MetaKind) (id : Lun) (cdb : Cdb)
  | metaPut (kind : MetaKind) (id : Lun) (cdb : Cdb) (bytes : List Byte)
deriving DecidableEq, Repr

/-- The failure kinds of R271. -/
inductive FailureKind where
  | hostReset
  | transportFailure
  | protocolFailure (code : Byte)
  | storageFailure (e : StoreErr)
  | lunNotSupported
deriving DecidableEq, Repr

/-- The events of the Diagnostic Collaborator (R300). -/
inductive DiagEvent where
  | phaseEntry (p : Phase)
  | commandDecoded (cdb : Cdb)
  | blockMoved (dir : XferDir) (n : Nat)
  | error (kind : FailureKind)
deriving DecidableEq, Repr

/-- The lines the host drives (R22). -/
inductive HostLine where
  | rst
  | sel
  | ack
  | atn
deriving DecidableEq, Repr

/-- One step of agent HOST: change one line, put a byte on the data bus, or release the data bus. DESIGN CHOICE (log entry
30): R12 fixes SEQ's step only; several changes at once are moves with no other agent's step between them. -/
inductive HostMove where
  | line (l : HostLine) (asserted : Bool)
  | drive (b : Byte)
  | release
deriving DecidableEq, Repr

/-- Which agent steps next (R12, R13), and for HOST what it does. STORE answers inside SEQ's calls (R70). -/
inductive Move where
  | seq
  | mon
  | host (m : HostMove)
deriving DecidableEq, Repr

/-! ### The state -/

/-- The registers of R21 to R38, then the parameters of the step relation (R20) and the model's own records. -/
structure State where
  /-- `OUT.BSY`, `OUT.REQ`, `OUT.MSG`, `OUT.CD`, `OUT.IO` (R21, R28). -/
  out : OutLines
  /-- `db_dir` (R23). -/
  dbDir : BusDir
  /-- `db_out` (R24). -/
  dbOut : Byte
  /-- `reset_flag` (R26). -/
  resetFlag : Bool
  /-- `rst_pending` (R27). -/
  rstPending : Bool
  /-- `lun_valid` (R29). -/
  lunValid : Bool
  /-- `phase` (R30). -/
  phase : Phase
  /-- `seq` (R31). -/
  seq : Seq
  /-- `cdb[0..5]` (R32). -/
  cdb : Cdb
  /-- `buf[0..255]` (R33). -/
  buf : Memory
  /-- `n` (R34). -/
  n : Nat
  /-- `polls` (R34). -/
  polls : Nat
  /-- `sel_byte` (R35). -/
  selByte : Byte
  /-- `cur_lun` (R36). -/
  curLun : Lun
  /-- `status` (R37). -/
  status : Byte
  /-- `sense[0..7]` (R38). -/
  sense : Vector SenseRec 8
  /-- The configuration record (R7), constant in a run (R39). -/
  cfg : Config
  /-- The lines and the byte the host drives now (R22, R25). -/
  host : HostLines
  /-- The answers STORE will give, first one first; past the end answers are draws (R70). -/
  answers : List Answer
  /-- The agents' next moves, first one first; past the end MON and SEQ go on (R12). -/
  sched : List Move
  /-- How many draws the run has taken: the argument of the next `Config.freeByte` or `Config.freeAnswer`. -/
  draws : Nat
  /-- The calls SEQ has made of STORE, newest first. -/
  calls : List StoreCall
  /-- The events DIAG has received, newest first (R300). -/
  diag : List DiagEvent
deriving DecidableEq, Repr

/-! ### How a step stops -/

/-- A step that is no step of the composed machine: each is safe, and none is reached from reset. -/
inductive Fault where
  /-- `writeByte` or `transferBlock(ToHost)` with `db_dir = Input` (U3, R161). Raised by `hsStep`. Safe. -/
  | writeWhileInput
  /-- `readByte` or `transferBlock(FromHost)` with `db_dir = Output` (U4, R161). Raised by `hsStep`. Safe. -/
  | readWhileOutput
  /-- A handshake primitive entered with `OUT.REQ = true` (U4, R161). Raised by `hsStep`. Safe. -/
  | reqAlreadyAsserted
  /-- `setDataPhaseFlags` while `OUT.REQ = true` (U4, R157). Raised by `setDataPhaseFlags`. Safe. -/
  | flagsDuringHandshake
  /-- `buf[n]` with `n` outside 0..255, where no buffer byte is (R60). Raised by `blockMove`. Safe. -/
  | bufferRange
  /-- `dispatch` outside `SQ_DISPATCH`, or a handler at a position R31 does not give it (R220). Raised by the
  meanings. Safe. -/
  | strayControl
deriving DecidableEq, Repr

/-- A step the model does not admit. -/
inductive Refusal where
  /-- An instruction whose arm of `exec` has no meaning; no arm is left so. Safe. -/
  | notModelled (mnemonic : String)
  /-- `setLine` on a host-driven line (U5, R131). Raised by `setLine`. Safe. -/
  | setLineOfHost
  /-- A HOST step that drives the data bus while the target drives it (U6, R322). Raised by `hostStep`. Safe. -/
  | busContention
deriving DecidableEq, Repr

/-- The outcome of a step of this machine. -/
abbrev Outcome := Host.Outcome State Fault Refusal

/-! ### Reset -/

/-- The power-on state (R41, R310, R311, R321). `db_out` holds an open value (R24, log entry 7); the
other registers the spec leaves unspecified hold zero: DESIGN CHOICE, unsafe (log entries 7 and 8). `diag` is empty: no
`PhaseEntry(BusFree)` is recorded for power-on, DESIGN CHOICE (log entry 15). -/
def State.reset : State where
  out := .released
  dbDir := .input
  dbOut := Config.openDbOut
  resetFlag := false
  rstPending := false
  lunValid := false
  phase := .busFree
  seq := .bf1
  cdb := ⟨0, 0, 0, 0, 0, 0⟩
  buf := []
  n := 0
  polls := 0
  selByte := 0
  curLun := 0
  status := 0
  sense := Vector.replicate 8 (SenseRec.cleared Config.default.senseCodes)
  cfg := Config.default
  host := ⟨false, false, false, false, none⟩
  answers := []
  sched := []
  draws := 0
  calls := []
  diag := []

end Sys2Proof.Machine
end

