-- ==== Sys2Proof/Machine/Ops.lean ====
section
/-! DEFINITION. The named operations over memory, registers and collaborators, and Reset handling: the block's one
exception entry and its return (20_memory.md, 42_phase_sequencer.md R197 to R200, 60_exceptions.md R285, R287). -/

namespace Sys2Proof.Machine

/-! ### The block buffer -/

/-- `MemRead(BUF, a, 1)` (R11): the byte at `a`, or what an unlisted address reads as. -/
def Memory.read (m : Memory) (a : Nat) : Byte :=
  match m with
  | [] => Memory.unlisted
  | c :: cs => if c.1 = a then c.2 else Memory.read cs a

/-- The cell list of one byte: none where the byte is what an unlisted address reads as. -/
def Memory.cell (a : Nat) (b : Byte) : Memory := if b = Memory.unlisted then [] else [(a, b)]

/-- `MemWrite(BUF, a, 1, b)` (R11), in canonical form. -/
def Memory.write (m : Memory) (a : Nat) (b : Byte) : Memory :=
  match m with
  | [] => Memory.cell a b
  | c :: cs =>
    if c.1 < a then c :: Memory.write cs a b
    else if c.1 = a then Memory.cell a b ++ cs
    else Memory.cell a b ++ c :: cs

/-- The buffer that holds the bytes `bs` from address `a` on and nothing else, in canonical form. -/
def Memory.ofBytes (a : Nat) (bs : List Byte) : Memory :=
  match bs with
  | [] => []
  | b :: bs => Memory.cell a b ++ Memory.ofBytes (a + 1) bs

/-- `buf[0..255]` as a list, ascending (R63). -/
def Memory.block (m : Memory) : List Byte := (List.range blockSize).map m.read

/-- A byte string padded with `0x00` to one block and cut at one block (R241, decision D28). -/
def padBlock (bs : List Byte) : List Byte := bs.take blockSize ++ List.replicate (blockSize - bs.length) 0

/-! ### The Diagnostic Collaborator -/

/-- The categories of the Diagnostic Collaborator's toggles (R300). -/
inductive DiagCategory where
  | filesystem
  | scsiCommands
  | scsiBlocks
  | scsiFcodes
  | scsiState
deriving DecidableEq, Repr

/-- The category of an event (table of R300): a decoded F-code or vendor opcode is told apart by its opcode byte. -/
def diagCategory (o : Opc) (e : DiagEvent) : DiagCategory :=
  match e with
  | .phaseEntry _ => .scsiState
  | .commandDecoded c =>
    if c.b0 ∈ [o.fcodeRead, o.fcodeWrite, o.vSense, o.vSelect, o.vPath, o.vInfo, o.vRead] then .scsiFcodes
    else .scsiCommands
  | .blockMoved _ _ => .scsiBlocks
  | .error _ => .scsiState

/-- Give DIAG an event. "An event is not a step ... and cannot change any register" (R300). -/
def emit (e : DiagEvent) (s : State) : State := { s with diag := e :: s.diag }

/-- `phase <- p`, with the event `PhaseEntry(p)` that R300 attaches to every write of `phase`. -/
def setPhase (p : Phase) (s : State) : State := emit (.phaseEntry p) { s with phase := p }

/-! ### The Storage Collaborator -/

/-- The answer STORE gives to the next call: the next one given, or a draw (R70, U14). -/
def nextAnswer (s : State) : Answer := s.answers.headD (Config.freeAnswer s.draws)

/-- The state after a call of STORE: the call is recorded, and the answer given is spent. No other register of
the block changes (R70). -/
def afterCall (c : StoreCall) (s : State) : State :=
  { s with
    calls := c :: s.calls
    answers := s.answers.tail
    draws := if s.answers.isEmpty then s.draws + 1 else s.draws }

/-- The Boolean of `lunExists` (R71). -/
def lunExistsResult (a : Answer) : Bool := a.flag

/-- The Boolean of `lunReady` (R72). -/
def lunReadyResult (a : Answer) : Bool := a.flag

/-- The result of `readSector`: a sector or an error (R73). -/
def readSectorResult (a : Answer) : Except StoreErr Block :=
  match a.err with
  | some e => .error e
  | none => .ok a.block

/-- The result of `writeSector`: `none` is ok (R74). -/
def writeSectorResult (a : Answer) : Option StoreErr := a.err

/-- The result of `lunSizeInBlocks` (R75); no rule calls it. -/
def lunSizeResult (a : Answer) : BitVec 32 := a.size

/-- The result of `metaGet`: a byte string "of a length the collaborator chooses, at most 256" (R76), or an error. -/
def metaGetResult (a : Answer) : Except StoreErr (List Byte) :=
  match a.err with
  | some e => .error e
  | none => .ok (a.bytes.take blockSize)

/-- The result of `metaPut`: `none` is ok (R76). -/
def metaPutResult (a : Answer) : Option StoreErr := a.err

/-! ### The sense store and the result of dispatch -/

/-- `sense[l] <- r` (R38). -/
def setSense (l : Lun) (r : SenseRec) (s : State) : State := { s with sense := s.sense.set l r }

/-- `sense[l]` (R38). -/
def senseOfLun (l : Lun) (s : State) : SenseRec := s.sense[l]

/-- What `dispatch` returns: `(status, senseUpdate)` (R220). -/
structure Result where
  status : Byte
  sense : SenseRec
deriving DecidableEq, Repr

/-- `ok()` (R223). -/
def okResult (c : Config) : Result := ⟨c.statusGood, .cleared c.senseCodes⟩

/-- `fail(c)` (R223). -/
def failResult (c : Config) (code : Byte) : Result := ⟨c.statusCheckCondition, .ofCode code⟩

/-- `senseOf(e)` (R223, R275). -/
def senseOf (c : SenseCodes) (e : StoreErr) : Byte :=
  match e with
  | .notFound => c.notFound
  | .notReady => c.notReady
  | .ioError => c.ioError

/-- The return of `dispatch`: the writes of `status` and of `sense[cur_lun]`, which belong to its last step
(R190, decision D37). -/
def finish (r : Result) (s : State) : State :=
  { setSense s.curLun r.sense s with status := r.status, seq := .disp1 }

/-- A handler returns `ok()`. -/
def finishOk (s : State) : State := finish (okResult s.cfg) s

/-- A handler returns `fail(senseOf(e))`: `StorageFailure(e)` (R275). -/
def finishStorage (e : StoreErr) (s : State) : State :=
  finish (failResult s.cfg (senseOf s.cfg.senseCodes e)) (emit (.error (.storageFailure e)) s)

/-- A handler returns `fail(SENSE.INVALID_COMMAND)`: `ProtocolFailure` (R248, R274). -/
def finishIllegal (s : State) : State :=
  finish (failResult s.cfg s.cfg.senseCodes.invalidCommand)
    (emit (.error (.protocolFailure s.cfg.senseCodes.invalidCommand)) s)

/-- A handler returns `xfail()` after a short count or a failed byte (R225). -/
def finishXfail (s : State) : State := finish (failResult s.cfg s.cfg.senseCodes.transportFailure) s

/-- A storage call that answers ok or an error: on `none` the handler goes on with `k`. -/
def onStored (r : Option StoreErr) (k : State → State) (s : State) : State :=
  match r with
  | some e => finishStorage e s
  | none => k s

/-! ### Control -/

/-- `seq <- q` (R11). -/
def goto (q : Seq) (s : State) : State := { s with seq := q }

/-- `goto RESET` (R181, R182): Reset handling comes next, and everything it changes, `phase` included, changes in its
own steps (R43 item 4, R285; log entry 9). -/
def gotoReset (s : State) : State := goto .rst1 s

/-- A phase boundary (R181): a true Reset Flag sends SEQ to Reset handling, a false one lets it go on with `k`. -/
def boundary (k : State → State) (s : State) : State := if s.resetFlag then gotoReset s else k s

/-- Run `k` on the next state of an outcome; a stop stays as it is. -/
def andThen (o : Outcome) (k : State → Outcome) : Outcome :=
  match o with
  | .next s => k s
  | .fault f => .fault f
  | .refused r => .refused r

/-! ### Release, and Reset handling: the one exception -/

/-- All target-driven lines de-asserted and the data bus turned to input, in one step (R197, R199). -/
def releaseOutputs (s : State) : State := { s with out := .released, dbDir := .input }

/-- Step `REL` (R197), the BusFree entry of the normal path. -/
def busRelease (s : State) : State :=
  goto .bf1 (setPhase .busFree { releaseOutputs s with lunValid := false })

/-- The label `RESET` with its step `RST1` (R199): exception entry. Nothing is saved; `phase` becomes BusFree in the
step that releases the outputs (R43 item 4, decision D11; log entry 9), all eight sense records are cleared and the LUN
association is dropped. -/
def resetEntry (s : State) : State :=
  goto .rst3 (setPhase .busFree
    { releaseOutputs s with
      sense := Vector.replicate 8 (SenseRec.cleared s.cfg.senseCodes)
      lunValid := false })

/-- Step `RST3` (R200): the flag is cleared last, and SEQ is back in BusFree: the return from the exception (R287). -/
def resetReturn (s : State) : State := goto .bf1 (setPhase .busFree { s with resetFlag := false })

end Sys2Proof.Machine
end

