-- ==== Sys2Proof/Machine/Signal.lean ====
section
/-! DEFINITION. The Signal Layer (40_signal_layer.md R130 to R137): lines, data bus, and what the pins carry
(30_encoding.md R90, R91). -/

namespace Sys2Proof.Machine

/-- The nine control lines (R90). -/
inductive Line where
  | rst
  | sel
  | ack
  | atn
  | bsy
  | req
  | msg
  | cd
  | io
deriving DecidableEq, Repr

/-- `setLine(line, asserted)` (R131) on the five target-driven lines; on a host-driven line it is refused (U5). -/
def setLine (l : Line) (asserted : Bool) (s : State) : Outcome :=
  match l with
  | .bsy => .next { s with out := { s.out with bsy := asserted } }
  | .req => .next { s with out := { s.out with req := asserted } }
  | .msg => .next { s with out := { s.out with msg := asserted } }
  | .cd => .next { s with out := { s.out with cd := asserted } }
  | .io => .next { s with out := { s.out with io := asserted } }
  | .rst => .refused .setLineOfHost
  | .sel => .refused .setLineOfHost
  | .ack => .refused .setLineOfHost
  | .atn => .refused .setLineOfHost

/-- `setLine(REQ, asserted)`, as the handshake primitives use it. -/
def setReq (asserted : Bool) (s : State) : State := { s with out := { s.out with req := asserted } }

/-- `setLine(BSY, asserted)`, as Selection handling uses it (R185). -/
def setBsy (asserted : Bool) (s : State) : State := { s with out := { s.out with bsy := asserted } }

/-- `readLine(line)` (R132): the host's lines, or the target's own output register. -/
def readLine (l : Line) (s : State) : Bool :=
  match l with
  | .rst => s.host.rst
  | .sel => s.host.sel
  | .ack => s.host.ack
  | .atn => s.host.atn
  | .bsy => s.out.bsy
  | .req => s.out.req
  | .msg => s.out.msg
  | .cd => s.out.cd
  | .io => s.out.io

/-- `setDataBusDirection(output)` (R133): `db_out` keeps its value. -/
def setDataBusDirection (output : Bool) (s : State) : State :=
  { s with dbDir := if output then .output else .input }

/-- `writeDataBus(byte)` (R134): the latch is written in either direction. -/
def writeDataBus (b : Byte) (s : State) : State := { s with dbOut := b }

/-- The byte `readDataBus()` returns (R135): the host's byte, a draw where the host drives none (U2), or `db_out`
while the target drives the bus. -/
def readDataBus (s : State) : Byte :=
  match s.dbDir with
  | .input => s.host.db.getD (Config.freeByte s.draws)
  | .output => s.dbOut

/-- The state after `readDataBus()`: no side effect on the block (R135); a draw that was taken is spent. -/
def afterReadDataBus (s : State) : State :=
  { s with draws := if s.dbDir = .input ∧ s.host.db = none then s.draws + 1 else s.draws }

/-! ### What the pins carry -/

/-- The electrical level of a line: asserted is low (R10). `true` is level 1. -/
def level (asserted : Bool) : Bool := !asserted

/-- What stands on the pins `DB_n[7:0]`. -/
inductive BusWires where
  /-- One side drives this wire byte. -/
  | driven (wire : Byte)
  /-- Nobody drives the bus. -/
  | floating
  /-- Both sides drive it: the spec gives the bus no value (R322). -/
  | contended
deriving DecidableEq, Repr

/-- The pins of R90. -/
structure Pins where
  rstN : Bool
  selN : Bool
  ackN : Bool
  atnN : Bool
  bsyN : Bool
  reqN : Bool
  msgN : Bool
  cdN : Bool
  ioN : Bool
  dbN : BusWires
deriving DecidableEq, Repr

/-- The data-bus pins: the complement of the driving side's byte (R91). -/
def busWires (s : State) : BusWires :=
  match s.dbDir, s.host.db with
  | .output, none => .driven (~~~ s.dbOut)
  | .output, some _ => .contended
  | .input, some b => .driven (~~~ b)
  | .input, none => .floating

/-- The levels on all pins (R90). -/
def pins (s : State) : Pins where
  rstN := level s.host.rst
  selN := level s.host.sel
  ackN := level s.host.ack
  atnN := level s.host.atn
  bsyN := level s.out.bsy
  reqN := level s.out.req
  msgN := level s.out.msg
  cdN := level s.out.cd
  ioN := level s.out.io
  dbN := busWires s

/-- The level of a line's pin. -/
def Pins.lineLevel (p : Pins) (l : Line) : Bool :=
  match l with
  | .rst => p.rstN
  | .sel => p.selN
  | .ack => p.ackN
  | .atn => p.atnN
  | .bsy => p.bsyN
  | .req => p.reqN
  | .msg => p.msgN
  | .cd => p.cdN
  | .io => p.ioN

end Sys2Proof.Machine
end

