-- ==== Sys2Proof/Machine/Agents.lean ====
section
/-! DEFINITION. The agents beside SEQ: the Reset Monitor (60_exceptions.md R280 to R282), the host
(70_reset_and_hazards.md R330 to R337), and the schedule that says who steps (00_scope.md R12, R13). -/

namespace Sys2Proof.Machine

/-- MON's step (R281): `reset_flag <- true ; rst_pending <- false`, enabled when `rst_pending` holds; where it is
not enabled, MON does not step (log entry 24). The event `Error(HostReset)` is recorded here (log entry 15). -/
def monStep (s : State) : State :=
  if s.rstPending then emit (.error .hostReset) { s with resetFlag := true, rstPending := false } else s

/-- A host line changes. The edge of RST from de-asserted to asserted sets `rst_pending` in the same step (R27,
R280); releasing RST, or holding it, captures nothing. -/
def hostLine (l : HostLine) (asserted : Bool) (s : State) : State :=
  match l with
  | .rst => { s with host := { s.host with rst := asserted },
                     rstPending := s.rstPending || (asserted && !s.host.rst) }
  | .sel => { s with host := { s.host with sel := asserted } }
  | .ack => { s with host := { s.host with ack := asserted } }
  | .atn => { s with host := { s.host with atn := asserted } }

/-- HOST's step (R330, the liberties). Driving the data bus while the target drives it is refused (R322, U6). -/
def hostStep (m : HostMove) (s : State) : Outcome :=
  match m with
  | .line l a => .next (hostLine l a s)
  | .drive b =>
    if s.dbDir = .output then .refused .busContention else .next { s with host := { s.host with db := some b } }
  | .release => .next { s with host := { s.host with db := none } }

/-- The target's lines by which the host tells one phase from the next: the phase lines, and BSY, whose fall ends
the last phase (R334, R337; log entry 25). -/
def phaseLines (s : State) : OutLines := { s.out with req := false }

/-- The agent that steps next: the schedule's head, and past its end MON while an edge is pending, else SEQ (weak
fairness, R341; log entry 3). -/
def nextMove (s : State) : Move := s.sched.headD (if s.rstPending then .mon else .seq)

/-- The state with the schedule's head taken. -/
def popMove (s : State) : State := { s with sched := s.sched.tail }

end Sys2Proof.Machine
end

