-- ==== Sys2Proof/Machine/Flags.lean ====
section
/-! DEFINITION. The phase flags MSG, C/D, I/O: their triple per phase (30_encoding.md R94 to R96) and the one
operation that writes them with the bus direction (41_handshake.md R157). -/

namespace Sys2Proof.Machine

/-- The arguments of `setDataPhaseFlags` (R94). -/
structure PhaseFlags where
  message : Bool
  commandNotData : Bool
  inputNotOutput : Bool
deriving DecidableEq, Repr

/-- The triple of each phase (table of R96). -/
def phaseFlags (p : Phase) : PhaseFlags :=
  match p with
  | .busFree => ⟨false, false, false⟩
  | .arbSel => ⟨false, false, false⟩
  | .command => ⟨false, true, false⟩
  | .dataOut => ⟨false, false, false⟩
  | .dataIn => ⟨false, false, true⟩
  | .status => ⟨false, true, true⟩
  | .messageIn => ⟨true, true, true⟩
  | .messageOut => ⟨true, true, false⟩

/-- The bus direction that matches I/O (R23, R157). -/
def dirOfIo (io : Bool) : BusDir := if io then .output else .input

/-- The four writes of `setDataPhaseFlags`, one atomic step (R157). -/
def driveFlags (f : PhaseFlags) (s : State) : State :=
  { s with
    out := { s.out with msg := f.message, cd := f.commandNotData, io := f.inputNotOutput }
    dbDir := dirOfIo f.inputNotOutput }

/-- `setDataPhaseFlags(message, commandNotData, inputNotOutput)` (R157); with a handshake in progress it is a
fault of the caller (U4). -/
def setDataPhaseFlags (f : PhaseFlags) (s : State) : Outcome :=
  if s.out.req then .fault .flagsDuringHandshake else .next (driveFlags f s)

end Sys2Proof.Machine
end

