-- ==== Sys2Proof/Machine/Handshake.lean ====
section
/-! DEFINITION. The Handshake Layer (41_handshake.md R150 to R161): the poll, the REQ/ACK engine of one byte, which
`readByte`, `writeByte` and `transferBlock` share (R158), and the byte counter of a block (R155). -/

namespace Sys2Proof.Machine

/-- `poll() -> (f, a)` (R151): the Reset Flag and ACK, sampled at one instant. It writes nothing. -/
def poll (s : State) : Bool × Bool := (s.resetFlag, readLine .ack s)

/-- What one step of the engine comes to. -/
inductive HsOut where
  /-- The byte goes on at this state of the engine. -/
  | more (h : Hs) (s : State)
  /-- The byte crossed the bus: `Ok`, with the byte. -/
  | done (b : Byte) (s : State)
  /-- "No byte transferred": `Fail`. -/
  | failed (s : State)
  /-- A precondition of the primitive was violated (R161). -/
  | fault (f : Fault)
deriving DecidableEq, Repr

/-- Where the engine starts a byte: a byte to the host is placed first (R158, `HS_IDLE`). -/
def hsStart (dir : XferDir) : Hs :=
  match dir with
  | .toHost => .idle
  | .fromHost => .req

/-- REQ asserted (RB1, WB1, TB2); a bounded wait starts its poll count (R155). -/
def raiseReq (bounded : Bool) (s : State) : State :=
  let s' := setReq true s
  if bounded then { s' with polls := 0 } else s'

/-- Entry of a byte from the host: its precondition (R152, R155), then REQ. -/
def startRead (bounded : Bool) (s : State) : HsOut :=
  if s.dbDir = .output then .fault .readWhileOutput
  else if s.out.req then .fault .reqAlreadyAsserted
  else .more .wait (raiseReq bounded s)

/-- Entry of a byte to the host: its precondition (R153, R155), then the byte on the bus (WB0, TB1). -/
def startWrite (b : Byte) (s : State) : HsOut :=
  if s.dbDir = .input then .fault .writeWhileInput
  else if s.out.req then .fault .reqAlreadyAsserted
  else .more .drive (writeDataBus b s)

/-- A poll that saw neither the flag nor ACK: in a bounded wait it is counted, and the poll that reaches
`ACK_POLL_BOUND` ends the wait (R155, R156). -/
def countPoll (bounded : Bool) (s : State) : HsOut :=
  if bounded then
    let s' := { s with polls := s.polls + 1 }
    if s'.polls < s.cfg.ackPollBound then .more .wait s' else .more .timeout s'
  else .more .wait s

/-- One poll of an ACK wait: the flag before ACK (R151, R283), ACK before the time-out (R155). -/
def waitPoll (bounded : Bool) (s : State) : HsOut :=
  match poll s with
  | (true, _) => .more .abort s
  | (false, true) => .more .release s
  | (false, false) => countPoll bounded s

/-- One step of the engine (table of R158). `b` is the byte of a transfer to the host, `bounded` is true inside
`transferBlock`. -/
def hsStep (dir : XferDir) (bounded : Bool) (b : Byte) (h : Hs) (s : State) : HsOut :=
  match h with
  | .idle =>
    match dir with
    | .toHost => startWrite b s
    | .fromHost => startRead bounded s
  | .req =>
    match dir with
    | .toHost => .more .wait (raiseReq bounded s)
    | .fromHost => startRead bounded s
  | .drive => .more .wait (raiseReq bounded s)
  | .wait => waitPoll bounded s
  | .release =>
    match dir with
    | .toHost => .done b (setReq false s)
    | .fromHost => .more .sample (setReq false s)
  | .sample => .done (readDataBus s) (afterReadDataBus s)
  | .timeout => .more .abort (emit (.error .transportFailure) { s with resetFlag := true })
  | .abort => .failed (setReq false s)

/-- One step of `readByte` (R152). -/
def readByteStep (h : Hs) (s : State) : HsOut := hsStep .fromHost false 0 h s

/-- One step of `writeByte(b)` (R153). -/
def writeByteStep (b : Byte) (h : Hs) (s : State) : HsOut := hsStep .toHost false b h s

/-- What one step of `transferBlock` comes to. -/
inductive BlkOut where
  /-- The block goes on at this state of the engine. -/
  | more (h : Hs) (s : State)
  /-- The result is 256. -/
  | full (s : State)
  /-- The result is a short count. -/
  | short (s : State)
  /-- A violated precondition. -/
  | fault (f : Fault)
deriving DecidableEq, Repr

/-- A byte of the block is done: `buf[n]` takes it if it came from the host, then `n <- n + 1` (TB4), and the block
ends at 256 (TB1). -/
def byteDone (dir : XferDir) (b : Byte) (s : State) : BlkOut :=
  let s' := match dir with
    | .toHost => { s with n := s.n + 1 }
    | .fromHost => { s with buf := s.buf.write s.n b, n := s.n + 1 }
  if s'.n = blockSize then .full (emit (.blockMoved dir s'.n) s') else .more (hsStart dir) s'

/-- One step of `transferBlock(dir, buf)` (R155), after `n <- 0` (TB0). -/
def blockMove (dir : XferDir) (h : Hs) (s : State) : BlkOut :=
  if blockSize ≤ s.n then .fault .bufferRange
  else
    match hsStep dir true (s.buf.read s.n) h s with
    | .more h' s' => .more h' s'
    | .done b s' => byteDone dir b s'
    | .failed s' => .short (emit (.blockMoved dir s'.n) s')
    | .fault f => .fault f

end Sys2Proof.Machine
end

