-- ==== Sys2Proof/Machine/DataPhase.lean ====
section
/-! DEFINITION. The four data procedures through which a handler moves data (42_phase_sequencer.md R189, R205 to
R208), one atomic step at a time. A procedure that fails ends the handler with `xfail()` (43_dispatch_handlers.md
R225). -/

namespace Sys2Proof.Machine

/-- The phase a transfer direction belongs to (R205, R206). -/
def phaseOfDir (dir : XferDir) : Phase :=
  match dir with
  | .toHost => .dataIn
  | .fromHost => .dataOut

/-- `DP0`: the boundary PB4 (R181). A true flag makes the procedure fail "without touching the lines"; a false one
enters the data phase. The result 0 of a block procedure that fails here is not written to the register `n`, which keeps
its value: DESIGN CHOICE (log entry 29), since R230 and R231 write it to an `n` of the handler's. -/
def dataBoundary (dir : XferDir) (k : HandlerPos) (s : State) : State :=
  if s.resetFlag then finishXfail s else goto (.handler k) (setPhase (phaseOfDir dir) s)

/-- `DP1`: the phase flags of the direction's phase, then on at `k`. -/
def dataFlags (dir : XferDir) (k : HandlerPos) (s : State) : Outcome :=
  andThen (setDataPhaseFlags (phaseFlags (phaseOfDir dir)) s) fun s' => .next (goto (.handler k) s')

/-- `dataInBlock` (R205) or `dataOutBlock` (R206) for block `k`; `onFull` is what the handler does in the step that
completes the block. -/
def blockPhase (dir : XferDir) (k : Nat) (p : DataPos) (onFull : State → State) (s : State) : Outcome :=
  match p with
  | .dp0 => .next (dataBoundary dir (.block dir k .dp1) s)
  | .dp1 => dataFlags dir (.block dir k (.dp2 (hsStart dir))) { s with n := 0 }
  | .dp2 h =>
    match blockMove dir h s with
    | .more h' s' => .next (goto (.handler (.block dir k (.dp2 h'))) s')
    | .full s' => .next (onFull s')
    | .short s' => .next (finishXfail s')
    | .fault f => .fault f

/-- `dataInBytes` (R207) with the bytes `rest` still to send, at least one; when all are sent the handler returns
`ok()`. -/
def bytesInPhase (rest : List Byte) (p : DataPos) (s : State) : Outcome :=
  match p with
  | .dp0 => .next (dataBoundary .toHost (.bytesIn rest .dp1) s)
  | .dp1 => dataFlags .toHost (.bytesIn rest (.dp2 (hsStart .toHost))) s
  | .dp2 h =>
    match rest with
    | [] => .fault .strayControl
    | b :: bs =>
      match writeByteStep b h s with
      | .more h' s' => .next (goto (.handler (.bytesIn (b :: bs) (.dp2 h'))) s')
      | .done _ s' =>
        .next (if bs.isEmpty then finishOk s' else goto (.handler (.bytesIn bs (.dp2 (hsStart .toHost)))) s')
      | .failed s' => .next (finishXfail s')
      | .fault f => .fault f

/-- The call `dataInBytes(p, length p)` itself: "if k = 0 then return Ok", with "no phase change, no step" (R207). -/
def startBytesIn (bytes : List Byte) (s : State) : State :=
  if bytes.isEmpty then finishOk s else goto (.handler (.bytesIn bytes .dp0)) s

/-- `dataOutBytes` (R208) with `rest` bytes still to come, at least one, after the bytes `q`; when all have come the handler's
`metaPut` of them is next. -/
def bytesOutPhase (rest : Nat) (q : List Byte) (p : DataPos) (s : State) : Outcome :=
  match p with
  | .dp0 => .next (dataBoundary .fromHost (.bytesOut rest q .dp1) s)
  | .dp1 => dataFlags .fromHost (.bytesOut rest q (.dp2 (hsStart .fromHost))) s
  | .dp2 h =>
    match rest with
    | 0 => .fault .strayControl
    | r + 1 =>
      match readByteStep h s with
      | .more h' s' => .next (goto (.handler (.bytesOut (r + 1) q (.dp2 h'))) s')
      | .done b s' =>
        .next (if r = 0 then goto (.handler (.put (q ++ [b]))) s'
          else goto (.handler (.bytesOut r (q ++ [b]) (.dp2 (hsStart .fromHost)))) s')
      | .failed s' => .next (finishXfail s')
      | .fault f => .fault f

/-- Entry of `dispatch`: the event `CommandDecoded(cdb)` (R300). -/
def decoded (s : State) : State := emit (.commandDecoded s.cdb) s

end Sys2Proof.Machine
end

