-- ==== Sys2Proof/Machine/Operands.lean ====
section
/-! DEFINITION. The operand forms of the commands (30_encoding.md R99 to R101, R107, 43_dispatch_handlers.md R224). -/

namespace Sys2Proof.Machine

/-- `nblk = if len = 0 then 256 else len` (R99): the number of blocks of READ6, WRITE6, VERIFY. -/
def blockCount (f : Fields) : Nat := if f.len = 0 then blockSize else f.len.toNat

/-- `lba + k`, zero-extended and without wrap-around, as the u32 the collaborator takes (R101, decision D42). -/
def blockAddr (f : Fields) (k : Nat) : BitVec 32 := f.lba.setWidth 32 + BitVec.ofNat 32 k

/-- The allocation length of REQUEST SENSE: 0 means 4 (R224). -/
def senseAllocation (f : Fields) : Nat := if f.len = 0 then 4 else f.len.toNat

/-- The four-byte payload of a sense record (R112). -/
def sensePayload (r : SenseRec) : List Byte := [r.code, r.info0, r.info1, r.info2]

/-- What REQUEST SENSE sends: the first `min(4, a)` bytes of the payload (R224, R228). -/
def requestSenseBytes (f : Fields) (s : State) : List Byte :=
  (sensePayload (senseOfLun s.curLun s)).take (min 4 (senseAllocation f))

/-- What INQUIRY sends: the first `min(INQ_LEN, cdb[4])` bytes of `INQUIRY_DATA` (R224, R235). -/
def inquiryBytes (f : Fields) (s : State) : List Byte :=
  s.cfg.inquiryData.take (min s.cfg.inqLen f.len.toNat)

/-- What MODE SENSE sends of the string STORE returned: `min(L, cdb[4])` bytes (R224, R237). -/
def modeSenseBytes (f : Fields) (r : List Byte) : List Byte := r.take (min r.length f.len.toNat)

/-- The parameter-list length of MODE SELECT (R224, R236). -/
def parameterLength (f : Fields) : Nat := f.len.toNat

/-- The start bit of START/STOP, `cdb[4][0]` (R238); the block passes the CDB on and keeps no such state. -/
def startBit (f : Fields) : Bool := f.len.getLsbD 0

end Sys2Proof.Machine
end

