-- ==== Sys2Proof/Machine/BlockData.lean ====
section
/-! DEFINITION. The block data handlers READ6 and WRITE6 (43_dispatch_handlers.md section 3). A meaning is the
handler's next atomic step: its first one at `SQ_DISPATCH`, a later one at the position `SQ_HANDLER(h, k)` holds. -/

namespace Sys2Proof.Machine

/-- READ6's fetch of block `k` into `buf`, after which the block crosses the bus (R230). -/
def read6Fetch (f : Fields) (k : Nat) (s : State) : State :=
  let s' := afterCall (.readSector s.curLun (blockAddr f k)) s
  match readSectorResult (nextAnswer s) with
  | .error e => finishStorage e s'
  | .ok b => goto (.handler (.block .toHost k .dp0)) { s' with buf := Memory.ofBytes 0 b.toList }

/-- READ6 after block `k` has fully crossed the bus: the next block's fetch, or the return (R230). -/
def read6Sent (f : Fields) (k : Nat) (s : State) : State :=
  if k + 1 < blockCount f then goto (.handler (.call (k + 1))) s else finishOk s

/-- READ(6) (R230). -/
def execRead6 (f : Fields) (s : State) : Outcome :=
  match s.seq with
  | .disp => .next (read6Fetch f 0 (decoded s))
  | .handler (.call k) => .next (read6Fetch f k s)
  | .handler (.block .toHost k p) => blockPhase .toHost k p (read6Sent f k) s
  | _ => .fault .strayControl

/-- WRITE6's step that persists block `k`, and the request of the next block or the return (R231). -/
def write6Store (f : Fields) (k : Nat) (s : State) : State :=
  onStored (writeSectorResult (nextAnswer s))
    (fun s' => if k + 1 < blockCount f then goto (.handler (.block .fromHost (k + 1) .dp0)) s' else finishOk s')
    (afterCall (.writeSector s.curLun (blockAddr f k) s.buf.block) s)

/-- WRITE(6) (R231): only a complete block is persisted (R232). -/
def execWrite6 (f : Fields) (s : State) : Outcome :=
  match s.seq with
  | .disp => blockPhase .fromHost 0 .dp0 (goto (.handler (.call 0))) (decoded s)
  | .handler (.block .fromHost k p) => blockPhase .fromHost k p (goto (.handler (.call k))) s
  | .handler (.call k) => .next (write6Store f k s)
  | _ => .fault .strayControl

end Sys2Proof.Machine
end

