-- ==== Sys2Proof/Machine/NoData.lean ====
section
/-! DEFINITION. The handlers without a data phase (43_dispatch_handlers.md section 2). A meaning is the handler's
next atomic step: its first one at `SQ_DISPATCH`, a later one at the position `SQ_HANDLER(h, k)` holds. -/

namespace Sys2Proof.Machine

/-- The step `r <- STORE.lunReady(cur_lun)` and the return that follows it (R226). -/
def readinessCall (s : State) : State :=
  let s' := afterCall (.lunReady s.curLun) s
  if lunReadyResult (nextAnswer s) then finishOk s' else finishStorage .notReady s'

/-- The body of a readiness check, a handler of one step (R226, R227, R233). -/
def readinessCheck (s : State) : Outcome :=
  match s.seq with
  | .disp => .next (readinessCall (decoded s))
  | _ => .fault .strayControl

/-- The step `r <- STORE.metaPut(kind, cur_lun, cdb, bytes)` and the return that follows it (R229, R236, R242). -/
def metaPutCall (kind : MetaKind) (bytes : List Byte) (s : State) : State :=
  onStored (metaPutResult (nextAnswer s)) finishOk (afterCall (.metaPut kind s.curLun s.cdb bytes) s)

/-- The body of a handler that is one `metaPut` of the empty string (R229, R238, R240). -/
def metaCommand (kind : MetaKind) (s : State) : Outcome :=
  match s.seq with
  | .disp => .next (metaPutCall kind [] (decoded s))
  | _ => .fault .strayControl

/-- TEST UNIT READY (R226). -/
def execTestUnitReady (_f : Fields) (s : State) : Outcome := readinessCheck s

/-- REZERO UNIT (R227): "an emulated disk has no head to move, so the command is a readiness check". -/
def execRezeroUnit (_f : Fields) (s : State) : Outcome := readinessCheck s

/-- SEEK (R233): the block does not check `lba`. -/
def execSeek (_f : Fields) (s : State) : Outcome := readinessCheck s

/-- FORMAT (R229). -/
def execFormat (_f : Fields) (s : State) : Outcome := metaCommand .format s

/-- START/STOP (R238): the start bit reaches the collaborator inside the CDB. -/
def execStartStop (_f : Fields) (s : State) : Outcome := metaCommand .startStop s

/-- SELECT (R240). -/
def execSelect (_f : Fields) (s : State) : Outcome := metaCommand .select s

/-- VERIFY's step for block `k`: read the sector, and go on to the next block or return (R239). -/
def verifyBlock (f : Fields) (k : Nat) (s : State) : State :=
  let s' := afterCall (.readSector s.curLun (blockAddr f k)) s
  match readSectorResult (nextAnswer s) with
  | .error e => finishStorage e s'
  | .ok b =>
    let s'' := if s.cfg.verifyFillsBuf then { s' with buf := Memory.ofBytes 0 b.toList } else s'
    if k + 1 < blockCount f then goto (.handler (.call (k + 1))) s'' else finishOk s''

/-- VERIFY (R239): no data phase. -/
def execVerify (f : Fields) (s : State) : Outcome :=
  match s.seq with
  | .disp => .next (verifyBlock f 0 (decoded s))
  | .handler (.call k) => .next (verifyBlock f k s)
  | _ => .fault .strayControl

/-- An unmatched opcode (R248): no storage call, no data phase, and no step of its own: SEQ runs it inside `CMD3`
(`commandDone`). -/
def execIllegal (_op : Byte) (_f : Fields) (s : State) : Outcome :=
  match s.seq with
  | .disp => .next (finishIllegal (decoded s))
  | _ => .fault .strayControl

end Sys2Proof.Machine
end

