-- ==== Sys2Proof/Machine/ByteData.lean ====
section
/-! DEFINITION. The byte-string data handlers (43_dispatch_handlers.md section 4). A meaning is the handler's next
atomic step: its first one at `SQ_DISPATCH`, a later one at the position `SQ_HANDLER(h, k)` holds. -/

namespace Sys2Proof.Machine

/-- A handler that starts with `dataInBytes` of `bytes`: its first step is `DP0`, and where there is nothing to send
it returns, with no step of its own (R207): SEQ then runs it inside `CMD3` (`commandDone`). -/
def firstBytesIn (bytes : List Byte) (s : State) : Outcome :=
  .next (if bytes.isEmpty then finishOk s else dataBoundary .toHost (.bytesIn bytes .dp1) s)

/-- REQUEST SENSE (R228): the record is read before the transfer and cleared by the `ok()` after it (R69). -/
def execRequestSense (f : Fields) (s : State) : Outcome :=
  match s.seq with
  | .disp => firstBytesIn (requestSenseBytes f s) (decoded s)
  | .handler (.bytesIn rest p) => bytesInPhase rest p s
  | _ => .fault .strayControl

/-- INQUIRY (R235): no storage call. -/
def execInquiry (f : Fields) (s : State) : Outcome :=
  match s.seq with
  | .disp => firstBytesIn (inquiryBytes f s) (decoded s)
  | .handler (.bytesIn rest p) => bytesInPhase rest p s
  | _ => .fault .strayControl

/-- The step `r <- STORE.metaGet(kind, cur_lun, cdb)`, and the call of `dataInBytes` on the part `cut` takes of the
string (R234, R237). -/
def metaGetBytes (kind : MetaKind) (cut : List Byte → List Byte) (s : State) : State :=
  let s' := afterCall (.metaGet kind s.curLun s.cdb) s
  match metaGetResult (nextAnswer s) with
  | .error e => finishStorage e s'
  | .ok r => startBytesIn (cut r) s'

/-- TRANSLATE (R234): the whole string is sent. -/
def execTranslate (_f : Fields) (s : State) : Outcome :=
  match s.seq with
  | .disp => .next (metaGetBytes .translate id (decoded s))
  | .handler (.bytesIn rest p) => bytesInPhase rest p s
  | _ => .fault .strayControl

/-- MODE SENSE (R237): at most the allocation length is sent. -/
def execModeSense (f : Fields) (s : State) : Outcome :=
  match s.seq with
  | .disp => .next (metaGetBytes .modeParams (modeSenseBytes f) (decoded s))
  | .handler (.bytesIn rest p) => bytesInPhase rest p s
  | _ => .fault .strayControl

/-- MODE SELECT (R236): `metaPut` of the bytes received, also of the empty string. -/
def execModeSelect (f : Fields) (s : State) : Outcome :=
  match s.seq with
  | .disp =>
    if parameterLength f = 0 then .next (metaPutCall .modeParams [] (decoded s))
    else bytesOutPhase (parameterLength f) [] .dp0 (decoded s)
  | .handler (.bytesOut rest q p) => bytesOutPhase rest q p s
  | .handler (.put q) => .next (metaPutCall .modeParams q s)
  | _ => .fault .strayControl

end Sys2Proof.Machine
end

