-- ==== Sys2Proof/Machine/Vendor.lean ====
section
/-! DEFINITION. The F-code and vendor diagnostic handlers, each the exchange of exactly one block
(43_dispatch_handlers.md section 5). A meaning is the handler's next atomic step: its first one at `SQ_DISPATCH`, a
later one at the position `SQ_HANDLER(h, k)` holds. -/

namespace Sys2Proof.Machine

/-- The step `r <- STORE.metaGet(kind, cur_lun, cdb)` of `vendorIn`, with the string padded into `buf` (R241). -/
def vendorFetch (kind : MetaKind) (s : State) : State :=
  let s' := afterCall (.metaGet kind s.curLun s.cdb) s
  match metaGetResult (nextAnswer s) with
  | .error e => finishStorage e s'
  | .ok r => goto (.handler (.block .toHost 0 .dp0)) { s' with buf := Memory.ofBytes 0 (padBlock r) }

/-- The body `vendorIn(kind)`: one block to the host (R241). -/
def vendorIn (kind : MetaKind) (s : State) : Outcome :=
  match s.seq with
  | .disp => .next (vendorFetch kind (decoded s))
  | .handler (.block .toHost k p) => blockPhase .toHost k p finishOk s
  | _ => .fault .strayControl

/-- The body `vendorOut(kind)`: one block from the host, then `metaPut` of all 256 bytes (R242); a partial block is
never persisted (R232). -/
def vendorOut (kind : MetaKind) (s : State) : Outcome :=
  match s.seq with
  | .disp => blockPhase .fromHost 0 .dp0 (goto (.handler (.call 0))) (decoded s)
  | .handler (.block .fromHost k p) => blockPhase .fromHost k p (goto (.handler (.call k))) s
  | .handler (.call _) => .next (metaPutCall kind s.buf.block s)
  | _ => .fault .strayControl

/-- F-code read (R241). -/
def execFcodeRead (_f : Fields) (s : State) : Outcome := vendorIn .fcode s

/-- F-code write (R242). -/
def execFcodeWrite (_f : Fields) (s : State) : Outcome := vendorOut .fcode s

/-- Vendor diagnostic "sense" (R243). -/
def execVSense (_f : Fields) (s : State) : Outcome := vendorIn .vSense s

/-- Vendor diagnostic "select" (R244). -/
def execVSelect (_f : Fields) (s : State) : Outcome := vendorOut .vSelect s

/-- Vendor diagnostic "path" (R245). -/
def execVPath (_f : Fields) (s : State) : Outcome := vendorOut .vPath s

/-- Vendor diagnostic "info" (R246). -/
def execVInfo (_f : Fields) (s : State) : Outcome := vendorIn .vInfo s

/-- Vendor diagnostic "read" (R247). -/
def execVRead (_f : Fields) (s : State) : Outcome := vendorIn .vRead s

end Sys2Proof.Machine
end

