-- ==== Sys2Proof/Machine/Dispatch.lean ====
section
/-! DEFINITION. The Command Dispatcher (43_dispatch_handlers.md R220, R221): one step of the handler of a command. -/

namespace Sys2Proof.Machine

def exec (i : Instr) (s : State) : Host.Outcome State Fault Refusal :=
  match i with
  | .testUnitReady f => Sys2Proof.Machine.execTestUnitReady f s
  | .rezeroUnit f => Sys2Proof.Machine.execRezeroUnit f s
  | .requestSense f => Sys2Proof.Machine.execRequestSense f s
  | .format f => Sys2Proof.Machine.execFormat f s
  | .read6 f => Sys2Proof.Machine.execRead6 f s
  | .write6 f => Sys2Proof.Machine.execWrite6 f s
  | .seek f => Sys2Proof.Machine.execSeek f s
  | .translate f => Sys2Proof.Machine.execTranslate f s
  | .inquiry f => Sys2Proof.Machine.execInquiry f s
  | .modeSelect f => Sys2Proof.Machine.execModeSelect f s
  | .modeSense f => Sys2Proof.Machine.execModeSense f s
  | .startStop f => Sys2Proof.Machine.execStartStop f s
  | .verify f => Sys2Proof.Machine.execVerify f s
  | .select f => Sys2Proof.Machine.execSelect f s
  | .fcodeRead f => Sys2Proof.Machine.execFcodeRead f s
  | .fcodeWrite f => Sys2Proof.Machine.execFcodeWrite f s
  | .vSense f => Sys2Proof.Machine.execVSense f s
  | .vSelect f => Sys2Proof.Machine.execVSelect f s
  | .vPath f => Sys2Proof.Machine.execVPath f s
  | .vInfo f => Sys2Proof.Machine.execVInfo f s
  | .vRead f => Sys2Proof.Machine.execVRead f s
  | .illegal op f => Sys2Proof.Machine.execIllegal op f s

end Sys2Proof.Machine
end

