-- ==== Sys2Proof/Machine/Sequencer.lean ====
section
/-! DEFINITION. The Phase Sequencer (42_phase_sequencer.md R180 to R203): one atomic step of SEQ at each label of
R201. A `phase <-` line that follows a step belongs to that step (00_scope.md R12), but for that of RESET, which R43 item 4
puts into `RST1` (log entry 9). -/

namespace Sys2Proof.Machine

/-! ### BusFree and Selection -/

/-- `BF1` (R183): flag, SEL and the data bus sampled at one instant, the flag first (PB1, R283). -/
def busFreePoll (s : State) : State :=
  let s' := afterReadDataBus s
  boundary
    (fun t =>
      if readLine .sel s && s.cfg.matchesId (readDataBus s) then
        goto .sel1 (setPhase .arbSel { t with selByte := readDataBus s })
      else t)
    s'

/-- `SEL1` (R185): BSY asserted, the LUN taken from the latched selection byte. -/
def selectStart (s : State) : State :=
  goto .sel2 { setBsy true s with curLun := s.cfg.lunOf s.selByte, lunValid := true }

/-- `SEL2` (R185): the call `lunExists(cur_lun)`. -/
def selectValidate (s : State) : State :=
  goto (.sel3 (lunExistsResult (nextAnswer s))) (afterCall (.lunExists s.curLun) s)

/-- `NOLUN` (R186): `LunNotSupported`; the writes belong to step `SEL3`, and Status follows. -/
def lunNotPresent (s : State) : State :=
  goto .stat1 (setPhase .status
    (emit (.error .lunNotSupported)
      { setSense s.curLun (.ofCode s.cfg.senseCodes.lunNotSupported) s with
        status := s.cfg.statusCheckCondition }))

/-- `SEL3` (R185): PB2, then the Command phase or the LUN-not-present path. -/
def selectDone (present : Bool) (s : State) : State :=
  boundary (fun t => if present then goto .cmd1 (setPhase .command t) else lunNotPresent t) s

/-! ### Command -/

/-- A `setDataPhaseFlags` of the sequencer for phase `p`, then on at `q` (R187, R192, R194). -/
def phaseStart (p : Phase) (q : Seq) (s : State) : Outcome :=
  andThen (setDataPhaseFlags (phaseFlags p) s) fun s' => .next (goto q s')

/-- `cdb[i] <- byte of r`, and on with the next byte or with `CMD3` (R187). -/
def cdbByteRead (i : Fin 6) (b : Byte) (s : State) : State :=
  let s' := { s with cdb := s.cdb.write i b }
  if h : i.val + 1 < 6 then goto (.cmd2 ⟨i.val + 1, h⟩ (hsStart .fromHost)) s' else goto .cmd3 s'

/-- `CMD2` (R187): one step of the `readByte` of CDB byte `i`; a `Fail` goes to Reset handling at once (R182). -/
def commandByte (i : Fin 6) (h : Hs) (s : State) : Outcome :=
  match readByteStep h s with
  | .more h' s' => .next (goto (.cmd2 i h') s')
  | .done b s' => .next (cdbByteRead i b s')
  | .failed s' => .next (gotoReset s')
  | .fault f => .fault f

/-! ### Status and MessageIn -/

/-- `STAT2` (R192): one step of the `writeByte` of the status byte. -/
def statusByte (h : Hs) (s : State) : Outcome :=
  match writeByteStep s.status h s with
  | .more h' s' => .next (goto (.stat2 h') s')
  | .done _ s' => .next (goto .stat3 s')
  | .failed s' => .next (gotoReset s')
  | .fault f => .fault f

/-- `MSG2` (R194): one step of the `writeByte` of COMMAND COMPLETE. -/
def messageByte (h : Hs) (s : State) : Outcome :=
  match writeByteStep s.cfg.msgCommandComplete h s with
  | .more h' s' => .next (goto (.msg2 h') s')
  | .done _ s' => .next (goto .msg3 s')
  | .failed s' => .next (gotoReset s')
  | .fault f => .fault f

/-! ### Dispatch -/

/-- The command that `cdb` holds, decoded with the configuration's `OPC` (R221): the block's fetch. -/
def fetched (s : State) : Instr := decodeCdb s.cfg.opc s.cdb

/-- The next step of the handler of the command in `cdb` (R188, R220). -/
def dispatchStep (s : State) : Outcome := exec (fetched s) s

/-- Whether the handler of `i` returns without a step of its own: an unmatched opcode (R248), and INQUIRY with
nothing to send, "no phase change, no step" (R207, R235). -/
def returnsAtOnce (i : Instr) (s : State) : Bool :=
  match i with
  | .illegal _ _ => true
  | .inquiry f => (inquiryBytes f s).isEmpty
  | .testUnitReady _ => false
  | .rezeroUnit _ => false
  | .requestSense _ => false
  | .format _ => false
  | .read6 _ => false
  | .write6 _ => false
  | .seek _ => false
  | .translate _ => false
  | .modeSelect _ => false
  | .modeSense _ => false
  | .startStop _ => false
  | .verify _ => false
  | .select _ => false
  | .fcodeRead _ => false
  | .fcodeWrite _ => false
  | .vSense _ => false
  | .vSelect _ => false
  | .vPath _ => false
  | .vInfo _ => false
  | .vRead _ => false

/-- `CMD3` (R187): PB3, then dispatch. The writes of a handler that takes no step follow `CMD3` and belong to it
(R12, R190; log entry 11). -/
def commandDone (s : State) : Outcome :=
  if s.resetFlag then .next (gotoReset s)
  else if returnsAtOnce (fetched s) s then dispatchStep (goto .disp s)
  else .next (goto .disp s)

/-! ### The sequencer -/

/-- One atomic step of SEQ, at the label `seq` holds (R201): inside `dispatch` the next step of the handler. -/
def seqStep (s : State) : Outcome :=
  match s.seq with
  | .bf1 => .next (busFreePoll s)
  | .sel1 => .next (selectStart s)
  | .sel2 => .next (selectValidate s)
  | .sel3 present => .next (selectDone present s)
  | .cmd1 => phaseStart .command (.cmd2 0 (hsStart .fromHost)) s
  | .cmd2 i h => commandByte i h s
  | .cmd3 => commandDone s
  | .disp => dispatchStep s
  | .handler _ => dispatchStep s
  | .disp1 => .next (boundary (fun t => goto .stat1 (setPhase .status t)) s)
  | .stat1 => phaseStart .status (.stat2 (hsStart .toHost)) s
  | .stat2 h => statusByte h s
  | .stat3 => .next (boundary (fun t => goto .msg1 (setPhase .messageIn t)) s)
  | .msg1 => phaseStart .messageIn (.msg2 (hsStart .toHost)) s
  | .msg2 h => messageByte h s
  | .msg3 => .next (boundary (goto .rel) s)
  | .rel => .next (busRelease s)
  | .rst1 => .next (resetEntry s)
  | .rst3 => .next (resetReturn s)

end Sys2Proof.Machine
end

