-- ==== Sys2Proof/Machine/Step.lean ====
section
/-! DEFINITION. One step of the machine: one atomic step of one agent (00_scope.md R12, R13). -/

namespace Sys2Proof.Machine

/-- One step of agent `m`. -/
def agentStep (m : Move) (s : State) : Outcome :=
  match m with
  | .seq => seqStep s
  | .mon => .next (monStep s)
  | .host a => hostStep a s

/-- One step: the agent whose move it is steps, and the move is taken from the schedule. -/
def step (s : State) : Host.Outcome State Fault Refusal := agentStep (nextMove s) (popMove s)

/-- `s` with the command whose table bits are `w` fetched: `cdb` holds it, SEQ stands at `SQ_DISPATCH` of a Command
phase with the LUN selected (as CMD3 leaves the block), and SEQ has the next move. -/
def State.withFetchWord (s : State) (nbits w : Nat) : State :=
  { s with
    cdb := tableCdb nbits w
    seq := .disp
    phase := .command
    out := ⟨true, false, false, true, false⟩
    dbDir := .input
    lunValid := true
    sched := .seq :: s.sched }

end Sys2Proof.Machine
end

