-- ==== Sys2Proof/Machine/Peer.lean ====
section
/-! DEFINITION. The host script notation (30_encoding.md R114) and the mirror peer that carries a script out
(70_reset_and_hazards.md R337): the test double of the environment. It looks at the block only through the lines. -/

namespace Sys2Proof.Machine

/-- A line of a host script (R114). `CDB` and `DOUT` send bytes, `DIN`, `STATUS` and `MSGIN` receive them. -/
inductive HostAction where
  | rst
  | sel (b : Byte)
  | send (bs : List Byte)
  | receive (n : Nat)
  | stall
  /-- The last act of `select(b)` in R337: `release DB_n`. -/
  | freeBus
deriving DecidableEq, Repr

/-- The peer: what is left of its script, the bytes it has recorded, newest first, and the lines under which it gave
the byte that it still drives. -/
structure Peer where
  script : List HostAction
  record : List Byte
  held : Option OutLines
deriving DecidableEq, Repr

/-- The logical byte on the data-bus wires: the complement of what one side drives (R91); a bus that nobody drives,
or that both sides do, carries none the spec names. -/
def wireByte (w : BusWires) : Option Byte :=
  match w with
  | .driven b => some (~~~ b)
  | .floating => none
  | .contended => none

/-- `CMD`: the tail `STATUS; MSGIN` of a command's lines (R115). -/
def commandTail : List HostAction := [.receive 1, .receive 1]

/-- Whether the peer lets go of the bus: the phase has changed since it gave its byte, "keep driving b until the next
wait REQ succeeds or the phase changes" (R337), or I/O is asserted (R336). -/
def peerLetsGo (p : Peer) (s : State) : Bool :=
  p.held.any (fun l => decide (l ≠ phaseLines s)) || (s.out.io && s.host.db.isSome)

/-- The next act of the peer's script (the three procedures of R337): a host step, or none while it waits, and the peer
after it. -/
def peerAct (p : Peer) (s : State) : Option HostMove × Peer :=
  match p.script with
  | [] => (none, p)
  | .rst :: rest =>
    if s.host.rst then (some (.line .rst false), { p with script := rest }) else (some (.line .rst true), p)
  | .sel b :: rest =>
    if s.host.sel then
      if s.out.bsy then (some (.line .sel false), { p with script := .freeBus :: rest }) else (none, p)
    else if s.out.bsy then (none, p)
    else if s.host.db = some b then (some (.line .sel true), p)
    else (some (.drive b), p)
  | .freeBus :: rest => (some .release, { p with script := rest })
  | .send [] :: rest => (none, { p with script := rest })
  | .send (b :: bs) :: rest =>
    if s.host.ack then
      if s.out.req then (none, p) else (some (.line .ack false), { p with script := .send bs :: rest })
    else if s.out.req then
      if s.host.db = some b then (some (.line .ack true), { p with held := some (phaseLines s) })
      else (some (.drive b), { p with held := none })
    else (none, p)
  | .receive 0 :: rest => (none, { p with script := rest })
  | .receive (n + 1) :: rest =>
    if s.host.ack then
      if s.out.req then (none, p) else (some (.line .ack false), { p with script := .receive n :: rest })
    else if s.out.req then
      if p.held.isSome then (some .release, { p with held := none })
      else (some (.line .ack true), { p with record := (wireByte (busWires s)).toList ++ p.record })
    else (none, p)
  | .stall :: rest => if s.out.bsy then (none, p) else (none, { p with script := rest })

/-- What the mirror peer does next (R337): let go of the bus where it must, whatever its script says next, else the
script's next act. -/
def peerReact (p : Peer) (s : State) : Option HostMove × Peer :=
  if peerLetsGo p s then (some .release, { p with held := none }) else peerAct p s

/-- One step of the block with the mirror peer in front of it: the peer's move where it has one, else the machine's
own. DESIGN CHOICE (log entry 31): R337 asks for a fair interleaving only, and this is one. -/
def peerStep (p : Peer) (s : State) : Peer × Outcome :=
  match peerReact p s with
  | (some m, p') => (p', hostStep m s)
  | (none, p') => (p', step s)

/-- A finite run has ended: the script is exhausted and SEQ polls in BusFree with nothing pending (R342). -/
def endOfRun (p : Peer) (s : State) : Bool :=
  p.script.isEmpty && decide (s.seq = .bf1) && !s.resetFlag && !s.rstPending

/-! ### A host that answers the handshakes, move by move -/

/-- What the host samples with a move: the wire byte, where the move asserts ACK, de-asserted until then, while the
target drives the bus with REQ asserted (R97 step 3): "only while REQ is asserted, and before it asserts ACK" (R333). -/
def hostTakes (m : Move) (s : State) : List Byte :=
  if m = .host (.line .ack true) ∧ s.host.ack = false ∧ s.out.req = true ∧ s.dbDir = .output then (wireByte (busWires s)).toList else []

/-- Play a list of moves: the bytes the host sampled, in order, and the outcome, which is the first stop there is. -/
def play (ms : List Move) (s : State) : List Byte × Outcome :=
  match ms with
  | [] => ([], .next s)
  | m :: ms =>
    match agentStep m s with
    | .next t => (hostTakes m s ++ (play ms t).1, (play ms t).2)
    | .fault f => ([], .fault f)
    | .refused r => ([], .refused r)

/-- One byte to the host, on a bus the host does not drive (the event order of R97): the target places the byte and
asserts REQ, polls `d` times in vain, the host asserts ACK, the target polls and de-asserts REQ, the host releases
ACK. -/
def takeRound (d : Nat) : List Move :=
  [.seq, .seq] ++ List.replicate d .seq ++ [.host (.line .ack true), .seq, .seq, .host (.line .ack false)]

/-- One byte from the host (the event order of R97): the target asserts REQ, polls `d` times in vain, the host drives
the byte and asserts ACK, the target polls, de-asserts REQ and samples, the host releases ACK and keeps the byte on
the bus (R334). -/
def giveRound (d : Nat) (b : Byte) : List Move :=
  [.seq] ++ List.replicate d .seq ++
    [.host (.drive b), .host (.line .ack true), .seq, .seq, .seq, .host (.line .ack false)]

end Sys2Proof.Machine
end

