-- ==== Sys2Proof/Safety.lean ====
section
/-! DEFINITION. What counts as a safe state and a safe run: the invariants of 10_state.md R43 with what they need
(R34, R96, R161, R202), and the host's duties (70_reset_and_hazards.md R330 to R336). -/

namespace Sys2Proof.Machine

/-! ### Where SEQ stands -/

/-- The REQ/ACK engine's direction and state, where SEQ is inside a handshake primitive. -/
def Seq.engine (q : Seq) : Option (XferDir × Hs) :=
  match q with
  | .cmd2 _ h => some (.fromHost, h)
  | .handler (.block dir _ (.dp2 h)) => some (dir, h)
  | .handler (.bytesIn _ (.dp2 h)) => some (.toHost, h)
  | .handler (.bytesOut _ _ (.dp2 h)) => some (.fromHost, h)
  | .stat2 h => some (.toHost, h)
  | .msg2 h => some (.toHost, h)
  | _ => none

/-- The states of the engine between its assertion of REQ and its de-assertion (R43 item 2). -/
def Hs.holdsReq (h : Hs) : Bool :=
  match h with
  | .wait => true
  | .release => true
  | .timeout => true
  | .abort => true
  | .idle => false
  | .drive => false
  | .req => false
  | .sample => false

/-- Whether REQ is asserted at a control state (R43 item 2). -/
def Seq.holdsReq (q : Seq) : Bool :=
  match q.engine with
  | some (_, h) => h.holdsReq
  | none => false

/-- Whether the target holds the bus at a control state: `none` at `RST1`, which is entered both from the idle loop
and from a phase (R43 item 3). -/
def Seq.holdsBus (q : Seq) : Option Bool :=
  match q with
  | .bf1 => some false
  | .sel1 => some false
  | .rst3 => some false
  | .rst1 => none
  | _ => some true

/-- The bus direction a transfer direction needs (R152, R153, R155). -/
def busDirOf (dir : XferDir) : BusDir :=
  match dir with
  | .toHost => .output
  | .fromHost => .input

/-- The phases in which a handler may stand before and after a data sub-phase (R202). -/
def dispatchPhases : List Phase := [.command, .dataIn, .dataOut]

/-- The phases a handler's position belongs to (R205 to R208). -/
def HandlerPos.phases (k : HandlerPos) : List Phase :=
  match k with
  | .call _ => dispatchPhases
  | .put _ => dispatchPhases
  | .block _ _ .dp0 => dispatchPhases
  | .block dir _ .dp1 => [phaseOfDir dir]
  | .block dir _ (.dp2 _) => [phaseOfDir dir]
  | .bytesIn _ .dp0 => dispatchPhases
  | .bytesIn _ .dp1 => [.dataIn]
  | .bytesIn _ (.dp2 _) => [.dataIn]
  | .bytesOut _ _ .dp0 => dispatchPhases
  | .bytesOut _ _ .dp1 => [.dataOut]
  | .bytesOut _ _ (.dp2 _) => [.dataOut]

/-- The phases a control state belongs to (R201). -/
def Seq.phases (q : Seq) : List Phase :=
  match q with
  | .bf1 => [.busFree]
  | .sel1 => [.arbSel]
  | .sel2 => [.arbSel]
  | .sel3 _ => [.arbSel]
  | .cmd1 => [.command]
  | .cmd2 _ _ => [.command]
  | .cmd3 => [.command]
  | .disp => [.command]
  | .handler k => k.phases
  | .disp1 => dispatchPhases
  | .stat1 => [.status]
  | .stat2 _ => [.status]
  | .stat3 => [.status]
  | .msg1 => [.messageIn]
  | .msg2 _ => [.messageIn]
  | .msg3 => [.messageIn]
  | .rel => [.messageIn]
  | .rst1 => [.busFree, .arbSel, .command, .dataIn, .dataOut, .status, .messageIn]
  | .rst3 => [.busFree]

/-- Before a storage call. -/
def HandlerPos.isCall (k : HandlerPos) : Bool :=
  match k with
  | .call _ => true
  | .put _ => false
  | .block _ _ _ => false
  | .bytesIn _ _ => false
  | .bytesOut _ _ _ => false

/-- Inside a block transfer of a given direction. -/
def HandlerPos.isBlock (dir : XferDir) (k : HandlerPos) : Bool :=
  match k with
  | .block dir' _ _ => decide (dir' = dir)
  | .call _ => false
  | .put _ => false
  | .bytesIn _ _ => false
  | .bytesOut _ _ _ => false

/-- Inside `dataInBytes`. -/
def HandlerPos.isBytesIn (k : HandlerPos) : Bool :=
  match k with
  | .bytesIn _ _ => true
  | .call _ => false
  | .put _ => false
  | .block _ _ _ => false
  | .bytesOut _ _ _ => false

/-- Inside `dataOutBytes`, or before the `metaPut` that follows it. -/
def HandlerPos.isBytesOut (k : HandlerPos) : Bool :=
  match k with
  | .bytesOut _ _ _ => true
  | .put _ => true
  | .call _ => false
  | .block _ _ _ => false
  | .bytesIn _ _ => false

/-- The positions of each handler (`SQ_HANDLER(h, k)`, R31). -/
def handlerMayStandAt (i : Instr) (k : HandlerPos) : Bool :=
  match i with
  | .testUnitReady _ => false
  | .rezeroUnit _ => false
  | .requestSense _ => k.isBytesIn
  | .format _ => false
  | .read6 _ => k.isCall || k.isBlock .toHost
  | .write6 _ => k.isCall || k.isBlock .fromHost
  | .seek _ => false
  | .translate _ => k.isBytesIn
  | .inquiry _ => k.isBytesIn
  | .modeSelect _ => k.isBytesOut
  | .modeSense _ => k.isBytesIn
  | .startStop _ => false
  | .verify _ => k.isCall
  | .select _ => false
  | .fcodeRead _ => k.isBlock .toHost
  | .fcodeWrite _ => k.isCall || k.isBlock .fromHost
  | .vSense _ => k.isBlock .toHost
  | .vSelect _ => k.isCall || k.isBlock .fromHost
  | .vPath _ => k.isCall || k.isBlock .fromHost
  | .vInfo _ => k.isBlock .toHost
  | .vRead _ => k.isBlock .toHost
  | .illegal _ _ => false

/-! ### The invariant -/

/-- The buffer is in canonical form and holds addresses 0..255 only (R60). -/
def State.bufOk (s : State) : Prop := s.buf.wf ∧ ∀ c ∈ s.buf, c.1 < blockSize

/-- The states the composed machine keeps to (R43, with R34, R96, R161 and R202). -/
structure State.Inv (s : State) : Prop where
  /-- The buffer. -/
  buf : s.bufOk
  /-- R43 item 1: `db_dir = Output` if and only if `OUT.IO`. -/
  dir : s.dbDir = dirOfIo s.out.io
  /-- R43 item 2: REQ is asserted exactly between the engine's assertion and de-assertion of it. -/
  req : s.out.req = s.seq.holdsReq
  /-- R43 item 3, as R185, R197 and R199 take its steps: BSY is asserted after `SEL1` until `REL` or `RST1` (log entry
  26). -/
  bsy : ∀ b, s.seq.holdsBus = some b → s.out.bsy = b
  /-- R43 item 4: BusFree means all outputs released and the bus input. -/
  free : s.phase = .busFree → s.out = .released ∧ s.dbDir = .input
  /-- R43 item 6: `lun_valid` implies BSY. -/
  lun : s.lunValid = true → s.out.bsy = true
  /-- The phase register is the one the control state belongs to (R202). -/
  phase : s.phase ∈ s.seq.phases
  /-- R96: while bytes cross the bus, the lines show the triple of the phase. -/
  lines : s.seq.engine.isSome → ⟨s.out.msg, s.out.cd, s.out.io⟩ = phaseFlags s.phase
  /-- R161: a primitive runs in its own direction. -/
  xfer : ∀ dir h, s.seq.engine = some (dir, h) → s.dbDir = busDirOf dir
  /-- R31: a handler stands at a position of its own. -/
  handler : ∀ k, s.seq = .handler k → handlerMayStandAt (fetched s) k = true
  /-- R34, R155: inside a block transfer `n` names a byte of the buffer. -/
  count : ∀ dir k h, s.seq = .handler (.block dir k (.dp2 h)) → s.n < blockSize
  /-- R12: a handler that takes no step never has SEQ wait at `SQ_DISPATCH` for one. -/
  steps : s.seq = .disp → returnsAtOnce (fetched s) s = false
  /-- R207: `dataInBytes` is entered with something to send. -/
  send : ∀ rest p, s.seq = .handler (.bytesIn rest p) → rest ≠ []
  /-- R208: `dataOutBytes` is entered with something to receive. -/
  receive : ∀ rest q p, s.seq = .handler (.bytesOut rest q p) → rest ≠ 0

/-! ### Runs -/

/-- A state reached from `s` by steps of the machine. -/
inductive Reaches : State → State → Prop where
  | refl (s : State) : Reaches s s
  | step (s t u : State) : Reaches s t → Sys2Proof.Machine.step t = .next u → Reaches s u

/-- The transition table of `phase` (R202). -/
def phaseStepAllowed (p q : Phase) : Bool :=
  match p, q with
  | .busFree, .busFree => true
  | .busFree, .arbSel => true
  | .arbSel, .command => true
  | .arbSel, .status => true
  | .command, .dataIn => true
  | .command, .dataOut => true
  | .command, .status => true
  | .dataIn, .dataIn => true
  | .dataIn, .dataOut => true
  | .dataOut, .dataIn => true
  | .dataOut, .dataOut => true
  | .dataIn, .status => true
  | .dataOut, .status => true
  | .status, .messageIn => true
  | .messageIn, .busFree => true
  | _, .busFree => true
  | _, _ => false

/-! ### The host's duties -/

/-- What the host's duties need of the run so far. -/
structure HostDuty where
  /-- The host has acknowledged a byte of its own, and since then neither REQ was asserted anew nor did the phase
  change: the byte is to be held (R334). -/
  holding : Bool
  /-- The selection byte is on the bus: SEL was asserted with it, and the bus was not released since (R335). -/
  selecting : Bool
  /-- BSY was seen since SEL was last asserted (R335). -/
  answered : Bool
deriving DecidableEq, Repr

/-- Nothing owed: a host that has done nothing yet. -/
def HostDuty.none : HostDuty := ⟨false, false, false⟩

/-- The history after the move `m`, which led from `s` to `t`. -/
def HostDuty.after (d : HostDuty) (m : Move) (s t : State) : HostDuty where
  holding :=
    if t.out.req && !s.out.req then false
    else if phaseLines t ≠ phaseLines s then false
    else d.holding ||
      (decide (m = .host (.line .ack true)) && !s.host.ack && !s.out.io && s.host.db.isSome)
  selecting := decide (m ≠ .host .release) && (d.selecting || decide (m = .host (.line .sel true)))
  answered :=
    if t.host.sel && !s.host.sel then t.out.bsy else d.answered || (t.host.sel && t.out.bsy)

/-- "The host releases the data bus before or when it sees I/O asserted" (R336). -/
def busLeft (s : State) : Bool := !s.out.io || s.host.db.isNone

/-- What the host must have done before REQ is asserted: ACK released (R332), SEL and the selection byte released
(R335). -/
def readyForReq (d : HostDuty) (s : State) : Bool := !s.host.ack && !s.host.sel && !d.selecting

/-- Whether the move `m` keeps the host's duties R332, R334, R335 and R336. RST and ATN are free at any time (R330).
A move of SEQ that asserts REQ finds what the host was to do before it. That the host samples before its ACK (R333) is
`hostTakes` of Machine/Peer.lean; that it answers at all (R331) is a property of a whole run (`KeepsDuties`). -/
def dutiful (d : HostDuty) (m : Move) (s : State) : Bool :=
  match m with
  | .mon => true
  | .seq =>
    match seqStep s with
    | .next t => s.out.req || !t.out.req || readyForReq d s
    | .fault _ => true
    | .refused _ => true
  | .host (.line .rst _) => true
  | .host (.line .atn _) => true
  | .host (.line .ack true) => s.out.req && (s.out.io || s.host.db.isSome) && busLeft s
  | .host (.line .ack false) => (!s.host.ack || !s.out.req) && busLeft s
  | .host (.line .sel true) => !s.out.bsy && s.host.db.isSome && busLeft s
  | .host (.line .sel false) => (!s.host.sel || d.answered && !s.out.req) && busLeft s
  | .host (.drive b) =>
    !s.out.io && !s.host.sel && !d.selecting && (!d.holding || decide (s.host.db = some b))
  | .host .release => !d.holding && (!d.selecting || d.answered && !s.out.req)

/-- Whether every one of these moves, made one after the other from `s`, keeps the duties. -/
def dutifulRun (ms : List Move) (d : HostDuty) (s : State) : Bool :=
  match ms with
  | [] => true
  | m :: ms =>
    dutiful d m s &&
      match agentStep m s with
      | .next t => dutifulRun ms (d.after m s t) t
      | .fault _ => false
      | .refused _ => false

/-! ### Runs under an infinite schedule -/

/-- `run` is a run in which the agent of `moves n` takes step `n` (R12). -/
structure IsRun (moves : Nat → Move) (run : Nat → State) : Prop where
  next : ∀ n, agentStep (moves n) (run n) = .next (run (n + 1))

/-- The fairness assumptions R341 (a) and (c); (b), that a call of STORE returns, holds of every call here, which is
one step. -/
structure IsFair (moves : Nat → Move) (run : Nat → State) : Prop where
  mon : ∀ n, (run n).rstPending = true → ∃ m ≥ n, moves m = .mon
  seq : ∀ n, ∃ m ≥ n, moves m = .seq

/-- The history before step `n` of a run. -/
def historyAt (moves : Nat → Move) (run : Nat → State) (n : Nat) : HostDuty :=
  match n with
  | 0 => .none
  | k + 1 => (historyAt moves run k).after (moves k) (run k) (run (k + 1))

/-- Step `m` of a run answers the REQ asserted in step `n`: the host asserts ACK, or makes an edge of RST, while that
very REQ is still asserted (R331). An ACK given to a later REQ is no answer to one withdrawn before it. -/
structure IsAnswer (run : Nat → State) (n m : Nat) : Prop where
  later : n < m
  up : ∀ j, n < j → j ≤ m → (run j).out.req = true
  edge : (run m).host.ack = false ∧ (run (m + 1)).host.ack = true ∨
    (run m).host.rst = false ∧ (run (m + 1)).host.rst = true

/-- A RST edge made before is still to take effect, so that SEQ withdraws whatever REQ it asserts (R317). -/
def resetUnderway (s : State) : Bool := s.rstPending || s.resetFlag

/-- A run whose host keeps its duties: every move of it (R332, R334 to R336), and "every REQ assertion is eventually
answered by an ACK assertion or by a RST edge" (R331). A REQ asserted under a RST edge already made has that edge for
its answer (R317; log entry 25). A stall that runs into `ACK_POLL_BOUND` breaks the duty: its REQ goes unanswered. -/
structure KeepsDuties (moves : Nat → Move) (run : Nat → State) : Prop where
  moves : ∀ n, dutiful (historyAt moves run n) (moves n) (run n) = true
  answers : ∀ n, (run n).out.req = false → (run (n + 1)).out.req = true →
    resetUnderway (run (n + 1)) = true ∨ ∃ m, IsAnswer run n m

end Sys2Proof.Machine
end

