-- ==== Sys2Proof/Certificates/Slice0/Obligations.lean ====
section
/-! DEFINITION. The statements for the provers, each from the numbered rules of spec/. OBLIGATIONS.json says in words
what each states and which rules it cites. `diag`, `calls`, `draws` and `answers` are the model's own records (log
entries 4, 6, 15, 16): where a next state is written out, they are written out with it. -/

open Sys2Proof Sys2Proof.Machine

/-! ### Encoding -/

/-- Decoding the CDB a well-formed command encodes to gives the command back, for every admissible `OPC`. -/
def Obligations.DecodeOfEncode : Prop :=
  ∀ (o : Opc) (i : Instr), o.distinct → i.wellFormed o = true →
    ∃ c, encode o i = some c ∧ decode o c.toList = .ok i

/-- Every CDB decodes to a well-formed command that encodes to that CDB and no other. -/
def Obligations.EncodeOfDecode : Prop :=
  ∀ (o : Opc) (c : Cdb), (decodeCdb o c).wellFormed o = true ∧ encode o (decodeCdb o c) = some c

/-- Words of the spec's own examples, written out byte by byte, decode to what the spec says they are. -/
def Obligations.ExampleWords : Prop :=
  decodeTableWord 48 0x080000000100 = some (.read6 ⟨0, 0, 1, 0⟩) ∧
  decodeTableWord 48 0x0A0000050100 = some (.write6 ⟨0, 5, 1, 0⟩) ∧
  decodeTableWord 48 0x150000000300 = some (.modeSelect ⟨0, 0, 3, 0⟩) ∧
  decodeTableWord 48 0x2F0000000200 = some (.verify ⟨0, 0, 2, 0⟩) ∧
  decodeTableWord 48 0x0B0010000000 = some (.seek ⟨0, 0x1000, 0, 0⟩) ∧
  decodeTableWord 48 0xFF0000000000 = some (.illegal 0xFF ⟨0, 0, 0, 0⟩) ∧
  decodeTableWord 48 0x08BFFFFE0180 = some (.read6 ⟨5, 0x1FFFFE, 1, 0x80⟩)

/-- A CDB is illegal exactly when its whole first byte is no value of `OPC`. -/
def Obligations.UnmatchedOpcodes : Prop :=
  ∀ (o : Opc) (c : Cdb), decodeCdb o c = .illegal c.b0 c.fields ↔ c.b0 ∉ o.values

/-- The operand fields: `lba` is the big-endian 21-bit number of bytes 1 to 3, `len` byte 4, `control` byte 5,
`lun_sel` the top three bits of byte 1, and no other bit is read. -/
def Obligations.OperandAssembly : Prop :=
  ∀ c : Cdb,
    c.fields.lba.toNat = c.b1.toNat % 32 * 65536 + c.b2.toNat * 256 + c.b3.toNat ∧
    c.fields.lunSel.toNat = c.b1.toNat / 32 ∧ c.fields.len = c.b4 ∧ c.fields.control = c.b5

/-- A transfer has `len` blocks, 256 where `len` is 0, so at least one and at most 256; block `k` of them lies at
`lba + k`, without wrap-around and never above `0x2000FE`. -/
def Obligations.BlockAddresses : Prop :=
  ∀ f : Fields,
    blockCount f = (if f.len = 0 then 256 else f.len.toNat) ∧ 1 ≤ blockCount f ∧ blockCount f ≤ 256 ∧
    ∀ k < blockCount f, (blockAddr f k).toNat = f.lba.toNat + k ∧ (blockAddr f k).toNat ≤ 0x2000FE

/-! ### Signal Layer and phase lines -/

/-- `setLine` writes the named field of `OUT` and nothing else; on a host-driven line it is refused. -/
def Obligations.SetLineWritesOneLine : Prop :=
  ∀ (a : Bool) (s : State),
    setLine .bsy a s = .next { s with out := { s.out with bsy := a } } ∧
    setLine .req a s = .next { s with out := { s.out with req := a } } ∧
    setLine .msg a s = .next { s with out := { s.out with msg := a } } ∧
    setLine .cd a s = .next { s with out := { s.out with cd := a } } ∧
    setLine .io a s = .next { s with out := { s.out with io := a } } ∧
    ∀ l ∈ [Line.rst, .sel, .ack, .atn], setLine l a s = .refused .setLineOfHost

/-- The inversion law of the Signal Layer: lines, byte out, byte in. The bus clause supposes that the host does not
drive the bus at the same time (R322). -/
def Obligations.InversionLaw : Prop :=
  (∀ (l : Line) (a : Bool) (s t : State), setLine l a s = .next t → (pins t).lineLevel l = !a) ∧
  (∀ (b : Byte) (s : State), s.host.db = none →
    (pins (writeDataBus b (setDataBusDirection true s))).dbN = .driven (~~~ b)) ∧
  (∀ (p : Byte) (s : State), s.dbDir = .input → (pins s).dbN = .driven p → readDataBus s = ~~~ p) ∧
  (∀ (l : Line) (s : State), readLine l s = !((pins s).lineLevel l))

/-- `setDataPhaseFlags` outside a handshake: the triple and the bus direction in one step, nothing else. -/
def Obligations.PhaseFlagsAtomic : Prop :=
  ∀ (f : PhaseFlags) (s : State), s.out.req = false →
    setDataPhaseFlags f s = .next
      { s with
        out := { bsy := s.out.bsy, req := s.out.req, msg := f.message, cd := f.commandNotData,
                 io := f.inputNotOutput }
        dbDir := if f.inputNotOutput then .output else .input }

/-! ### Handshake Layer -/

/-- One poll of an ACK wait: the Reset Flag beats ACK, ACK beats the time-out, and only a bounded wait counts. -/
def Obligations.PollDecides : Prop :=
  ∀ (dir : XferDir) (bounded : Bool) (b : Byte) (s : State),
    hsStep dir bounded b .wait s =
      if s.resetFlag then .more .abort s
      else if s.host.ack then .more .release s
      else if bounded = false then .more .wait s
      else if s.polls + 1 < s.cfg.ackPollBound then .more .wait { s with polls := s.polls + 1 }
      else .more .timeout { s with polls := s.polls + 1 }

/-- The steps of `readByte` (RB1, RB3, RB4, RB_AB) and of `writeByte` (WB0, WB1, WB3, WB_AB); RB2 and WB2 are the
poll. A byte from the host is sampled after REQ falls, a byte to the host is placed before REQ rises. That the two
leave `polls` as it was is the model's reading of R34, R152 and R153 (log entry 10): the table of R158 writes
`polls <- 0` for every primitive. -/
def Obligations.ByteHandshakeSteps : Prop :=
  ∀ (w : Byte) (s : State),
    (s.dbDir = .input → s.out.req = false →
      readByteStep .req s = .more .wait { s with out := { s.out with req := true } }) ∧
    readByteStep .release s = .more .sample { s with out := { s.out with req := false } } ∧
    (∀ b, s.dbDir = .input → s.host.db = some b → readByteStep .sample s = .done b s) ∧
    readByteStep .abort s = .failed { s with out := { s.out with req := false } } ∧
    (s.dbDir = .output → s.out.req = false → writeByteStep w .idle s = .more .drive { s with dbOut := w }) ∧
    writeByteStep w .drive s = .more .wait { s with out := { s.out with req := true } } ∧
    writeByteStep w .release s = .done w { s with out := { s.out with req := false } } ∧
    writeByteStep w .abort s = .failed { s with out := { s.out with req := false } }

/-- The steps of `transferBlock` with byte `n` in flight (TB3 is the poll): what is placed, what is stored, when the
block is full, and what a time-out and an abort leave. -/
def Obligations.TransferBlockSteps : Prop :=
  ∀ s : State, s.n < 256 →
    (s.dbDir = .output → s.out.req = false →
      blockMove .toHost .idle s = .more .drive { s with dbOut := s.buf.read s.n }) ∧
    blockMove .toHost .drive s = .more .wait { s with out := { s.out with req := true }, polls := 0 } ∧
    (s.dbDir = .input → s.out.req = false →
      blockMove .fromHost .req s = .more .wait { s with out := { s.out with req := true }, polls := 0 }) ∧
    blockMove .toHost .release s =
      (if s.n = 255 then
        .full { s with out := { s.out with req := false }, n := 256, diag := .blockMoved .toHost 256 :: s.diag }
      else .more .idle { s with out := { s.out with req := false }, n := s.n + 1 }) ∧
    blockMove .fromHost .release s = .more .sample { s with out := { s.out with req := false } } ∧
    (∀ b, s.dbDir = .input → s.host.db = some b →
      blockMove .fromHost .sample s =
        (if s.n = 255 then
          .full { s with buf := s.buf.write 255 b, n := 256, diag := .blockMoved .fromHost 256 :: s.diag }
        else .more .req { s with buf := s.buf.write s.n b, n := s.n + 1 })) ∧
    ∀ dir : XferDir,
      blockMove dir .timeout s =
        .more .abort { s with resetFlag := true, diag := .error .transportFailure :: s.diag } ∧
      blockMove dir .abort s =
        .short { s with out := { s.out with req := false }, diag := .blockMoved dir s.n :: s.diag }

/-- A host that never raises ACK: `transferBlock` polls exactly `ACK_POLL_BOUND` times, sets the Reset Flag once, not
before, and ends with a short count, nothing stored and no storage call. `p` is the number of steps before the first
poll: a byte to the host is placed before REQ. -/
def Obligations.StalledHostTimesOut : Prop :=
  ∀ (s : State) (dir : XferDir) (k : Nat), s.Inv → 1 ≤ s.cfg.ackPollBound →
    s.seq = .handler (.block dir k (.dp2 (hsStart dir))) → s.resetFlag = false → s.host.ack = false →
    let p := match dir with
      | .toHost => 2
      | .fromHost => 1
    (∀ j ≤ p + s.cfg.ackPollBound,
      ∃ u, play (List.replicate j .seq) s = ([], .next u) ∧ u.resetFlag = false ∧ u.n = s.n) ∧
    ∃ t, play (List.replicate (p + s.cfg.ackPollBound + 2) .seq) s = ([], .next t) ∧
      t.resetFlag = true ∧ t.n = s.n ∧ t.n < 256 ∧ t.buf = s.buf ∧ t.out = s.out ∧ t.dbDir = s.dbDir ∧
      t.phase = s.phase ∧ t.seq = .disp1 ∧ t.status = s.cfg.statusCheckCondition ∧ t.calls = s.calls

/-- A true Reset Flag ends every ACK wait, of a byte and of a block alike: within five steps of SEQ the block is back
in BusFree with every output released and the reset state restored, no storage call made. -/
def Obligations.ResetEndsEveryWait : Prop :=
  ∀ (s : State) (dir : XferDir), s.Inv → s.resetFlag = true → s.seq.engine = some (dir, .wait) →
    ∃ k ≤ 5, ∃ t, play (List.replicate k .seq) s = ([], .next t) ∧
      t.seq = .bf1 ∧ t.phase = .busFree ∧ t.out = ⟨false, false, false, false, false⟩ ∧ t.dbDir = .input ∧
      t.resetFlag = false ∧ t.lunValid = false ∧ (∀ l : Lun, t.sense[l] = ⟨s.cfg.senseCodes.noSense, 0, 0, 0⟩) ∧
      t.cdb = s.cdb ∧ t.buf = s.buf ∧ t.curLun = s.curLun ∧ t.calls = s.calls

/-! ### Data sub-phases, played with a host that answers -/

/-- `dataInBlock` against a host that answers each byte after fewer than `ACK_POLL_BOUND` vain polls: the host
samples `buf[0]` to `buf[255]` in ascending order, and the block ends full, in DataIn, without a reset. -/
def Obligations.BlockToHostInOrder : Prop :=
  ∀ (s : State) (k : Nat) (ds : List Nat), s.Inv → s.seq = .handler (.block .toHost k .dp0) →
    s.resetFlag = false → s.host.ack = false → s.host.db = none →
    ds.length = 256 → (∀ d ∈ ds, d < s.cfg.ackPollBound) →
    ∃ t, play ([.seq, .seq] ++ ds.flatMap takeRound) s = (s.buf.block, .next t) ∧
      t.n = 256 ∧ t.buf = s.buf ∧ t.phase = .dataIn ∧ t.dbDir = .output ∧
      t.out = ⟨s.out.bsy, false, false, false, true⟩ ∧ t.resetFlag = false ∧ t.calls = s.calls

/-- `dataOutBlock` against a host that answers each byte after fewer than `ACK_POLL_BOUND` vain polls: `buf` holds
the host's 256 bytes in the order they were sent, and the handler's storage call is next. It starts at the boundary
`DP0`, where a later block of WRITE6 stands, or at `DP1`, where the step at `SQ_DISPATCH` leaves the first block of
WRITE6, FCODE_WRITE, V_SELECT and V_PATH. -/
def Obligations.BlockFromHostInOrder : Prop :=
  ∀ (s : State) (k : Nat) (lead : List Move) (ps : List (Nat × Byte)), s.Inv →
    s.seq = .handler (.block .fromHost k .dp0) ∧ lead = [.seq, .seq] ∨
      s.seq = .handler (.block .fromHost k .dp1) ∧ lead = [.seq] →
    s.resetFlag = false → s.host.ack = false →
    ps.length = 256 → (∀ p ∈ ps, p.1 < s.cfg.ackPollBound) →
    ∃ t, play (lead ++ ps.flatMap fun p => giveRound p.1 p.2) s = ([], .next t) ∧
      t.buf.block = ps.map Prod.snd ∧ t.n = 256 ∧ t.seq = .handler (.call k) ∧ t.phase = .dataOut ∧
      t.dbDir = .input ∧ t.out = ⟨s.out.bsy, false, false, false, false⟩ ∧ t.resetFlag = false ∧ t.calls = s.calls

/-- `dataInBytes` against a host that answers, however late: the host samples the string in order, and the handler
returns `ok()`: status Good, the LUN's sense record cleared, every other record as it was. It starts at the boundary
`DP0`, where TRANSLATE and MODE SENSE stand, or at `DP1`, where the step at `SQ_DISPATCH` leaves REQUEST SENSE and
INQUIRY. -/
def Obligations.ByteStringToHost : Prop :=
  ∀ (s : State) (lead : List Move) (rest : List Byte) (ds : List Nat), s.Inv →
    s.seq = .handler (.bytesIn rest .dp0) ∧ lead = [.seq, .seq] ∨
      s.seq = .handler (.bytesIn rest .dp1) ∧ lead = [.seq] →
    s.resetFlag = false → s.host.ack = false → s.host.db = none → ds.length = rest.length →
    ∃ t, play (lead ++ ds.flatMap takeRound) s = (rest, .next t) ∧
      t.seq = .disp1 ∧ t.status = s.cfg.statusGood ∧
      t.sense = s.sense.set s.curLun ⟨s.cfg.senseCodes.noSense, 0, 0, 0⟩ ∧
      t.phase = .dataIn ∧ t.buf = s.buf ∧ t.resetFlag = false ∧ t.calls = s.calls

/-- The data phase of MODE SELECT against a host that answers, however late, from `DP1`, where the step at
`SQ_DISPATCH` leaves it: the bytes received are the bytes sent, in order, and they are what the `metaPut` that
follows will be given. -/
def Obligations.ByteStringFromHost : Prop :=
  ∀ (s : State) (ps : List (Nat × Byte)), s.Inv → s.seq = .handler (.bytesOut ps.length [] .dp1) →
    s.resetFlag = false → s.host.ack = false →
    ∃ t, play ([.seq] ++ ps.flatMap fun p => giveRound p.1 p.2) s = ([], .next t) ∧
      t.seq = .handler (.put (ps.map Prod.snd)) ∧ t.phase = .dataOut ∧ t.buf = s.buf ∧
      t.resetFlag = false ∧ t.calls = s.calls

/-- The Command phase against a host that answers, however late: six bytes, in order, whatever the first one is. -/
def Obligations.CommandPhaseReadsSixBytes : Prop :=
  ∀ (s : State) (ps : List (Nat × Byte)), s.Inv → s.seq = .cmd1 → s.resetFlag = false → s.host.ack = false →
    ps.length = 6 →
    ∃ t, play ([.seq] ++ ps.flatMap fun p => giveRound p.1 p.2) s = ([], .next t) ∧
      t.cdb.toList = ps.map Prod.snd ∧ t.seq = .cmd3 ∧ t.phase = .command ∧ t.dbDir = .input ∧
      t.out = ⟨s.out.bsy, false, false, true, false⟩ ∧ t.sense = s.sense ∧ t.calls = s.calls

/-- From Status to BusFree against a host that answers: it samples the status byte and then COMMAND COMPLETE, and
the bus is released with the sense store as it was. -/
def Obligations.StatusMessageRelease : Prop :=
  ∀ (s : State) (d e : Nat), s.Inv → s.seq = .stat1 → s.resetFlag = false → s.host.ack = false →
    s.host.db = none →
    ∃ t, play ([.seq] ++ takeRound d ++ [.seq, .seq] ++ takeRound e ++ [.seq, .seq]) s =
        ([s.status, s.cfg.msgCommandComplete], .next t) ∧
      t.seq = .bf1 ∧ t.phase = .busFree ∧ t.out = ⟨false, false, false, false, false⟩ ∧ t.dbDir = .input ∧
      t.lunValid = false ∧ t.sense = s.sense ∧ t.calls = s.calls

/-! ### Phase Sequencer -/

/-- The BusFree poll: flag, SEL and the data bus sampled at one instant, the flag first; a match latches the very
byte tested. Where the host drives no byte, the byte is a free value and the draw is spent (log entries 5 and 6). -/
def Obligations.BusFreePoll : Prop :=
  ∀ (b : Byte) (s : State), s.seq = .bf1 → s.dbDir = .input → b = s.host.db.getD (Config.freeByte s.draws) →
    let u := { s with draws := if s.host.db = none then s.draws + 1 else s.draws }
    seqStep s = .next
      (if s.resetFlag then { u with seq := .rst1 }
      else if s.host.sel ∧ s.cfg.matchesId b then
        { u with selByte := b, phase := .arbSel, seq := .sel1, diag := .phaseEntry .arbSel :: s.diag }
      else u)

/-- Selection handling: BSY and the LUN from the latched byte, one `lunExists` call, then Command for a LUN that is
present and the forced CheckCondition for one that is not. -/
def Obligations.SelectionSteps : Prop :=
  ∀ s : State,
    (s.seq = .sel1 → seqStep s = .next
      { s with out := { s.out with bsy := true }, curLun := s.cfg.lunOf s.selByte, lunValid := true,
               seq := .sel2 }) ∧
    (s.seq = .sel2 → seqStep s = .next
      { afterCall (.lunExists s.curLun) s with seq := .sel3 (nextAnswer s).flag }) ∧
    (s.seq = .sel3 true → s.resetFlag = false → seqStep s = .next
      { s with phase := .command, seq := .cmd1, diag := .phaseEntry .command :: s.diag }) ∧
    (s.seq = .sel3 false → s.resetFlag = false → seqStep s = .next
      { s with
        status := s.cfg.statusCheckCondition
        sense := s.sense.set s.curLun ⟨s.cfg.senseCodes.lunNotSupported, 0, 0, 0⟩
        phase := .status
        seq := .stat1
        diag := .phaseEntry .status :: .error .lunNotSupported :: s.diag })

/-- The triple each sequencer phase drives before its bytes, with the bus direction. -/
def Obligations.SequencerPhaseLines : Prop :=
  ∀ s : State, s.out.req = false →
    (s.seq = .cmd1 → seqStep s = .next
      { s with out := ⟨s.out.bsy, false, false, true, false⟩, dbDir := .input, seq := .cmd2 0 .req }) ∧
    (s.seq = .stat1 → seqStep s = .next
      { s with out := ⟨s.out.bsy, false, false, true, true⟩, dbDir := .output, seq := .stat2 .idle }) ∧
    (s.seq = .msg1 → seqStep s = .next
      { s with out := ⟨s.out.bsy, false, true, true, true⟩, dbDir := .output, seq := .msg2 .idle })

/-- A true flag sends SEQ to Reset handling from every boundary outside the data procedures and BusFree; that `phase`
is written there and not in this step is the model's reading of R12 and R43 item 4 (log entry 9). A false flag lets the
cycle go on. From `CMD3` it goes on at
`SQ_DISPATCH`, and where the command's handler takes no step, that handler runs in the same step (R12, log entry 11). -/
def Obligations.Boundaries : Prop :=
  ∀ s : State,
    (s.resetFlag = true →
      s.seq ∈ [Seq.sel3 true, .sel3 false, .cmd3, .disp1, .stat3, .msg3] →
      seqStep s = .next { s with seq := .rst1 }) ∧
    (s.resetFlag = false →
      (s.seq = .cmd3 → seqStep s =
        if returnsAtOnce (decodeCdb s.cfg.opc s.cdb) s then
          exec (decodeCdb s.cfg.opc s.cdb) { s with seq := .disp }
        else .next { s with seq := .disp }) ∧
      (s.seq = .disp1 → seqStep s = .next
        { s with phase := .status, seq := .stat1, diag := .phaseEntry .status :: s.diag }) ∧
      (s.seq = .stat3 → seqStep s = .next
        { s with phase := .messageIn, seq := .msg1, diag := .phaseEntry .messageIn :: s.diag }) ∧
      (s.seq = .msg3 → seqStep s = .next { s with seq := .rel })) ∧
    ∀ i : Instr, returnsAtOnce i s = true ↔
      (∃ op f, i = .illegal op f) ∨ ∃ f, i = .inquiry f ∧ (f.len = 0 ∨ s.cfg.inquiryData = [])

/-- BusFree entry on the normal path: one step releases all, and the sense store is not touched. That the phase flags
and the bus direction go with BSY is the spec's decision D11, which R197 marks as its own. -/
def Obligations.BusFreeEntry : Prop :=
  ∀ s : State, s.seq = .rel → seqStep s = .next
    { s with
      out := ⟨false, false, false, false, false⟩
      dbDir := .input
      lunValid := false
      phase := .busFree
      seq := .bf1
      diag := .phaseEntry .busFree :: s.diag }

/-- Reset handling, first part: all outputs released in one step, all eight sense records cleared, the LUN
association dropped, nothing saved and the flag not yet cleared. That `phase` becomes BusFree in this step is the model's
reading of R12 and R43 item 4 (log entry 9); what is released and cleared is the spec's decision (D11, D17). -/
def Obligations.ResetHandlingEntry : Prop :=
  ∀ s : State, s.seq = .rst1 → seqStep s = .next
    { s with
      out := ⟨false, false, false, false, false⟩
      dbDir := .input
      sense := Vector.replicate 8 ⟨s.cfg.senseCodes.noSense, 0, 0, 0⟩
      lunValid := false
      phase := .busFree
      seq := .rst3
      diag := .phaseEntry .busFree :: s.diag }

/-- Reset handling as a whole, with any number of MON steps between its two steps: the flag's clear comes last, so
that a reset that lands in between is absorbed, and every live register has its reset value. -/
def Obligations.ResetClearIsLast : Prop :=
  ∀ (s : State) (j : Nat), s.seq = .rst1 →
    ∃ t, play ([.seq] ++ List.replicate j .mon ++ [.seq]) s = ([], .next t) ∧
      t.resetFlag = false ∧ t.seq = .bf1 ∧ t.phase = .busFree ∧ t.out = ⟨false, false, false, false, false⟩ ∧
      t.dbDir = .input ∧ t.lunValid = false ∧ t.sense = Vector.replicate 8 ⟨s.cfg.senseCodes.noSense, 0, 0, 0⟩ ∧
      (1 ≤ j → t.rstPending = false) ∧ t.calls = s.calls

/-- What each reset does to each register: the power-on column where the spec gives a value, and the whole bus-reset
column. -/
def Obligations.ResetTable : Prop :=
  (State.reset.out = ⟨false, false, false, false, false⟩ ∧ State.reset.dbDir = .input ∧
    State.reset.resetFlag = false ∧ State.reset.rstPending = false ∧ State.reset.lunValid = false ∧
    State.reset.phase = .busFree ∧ State.reset.seq = .bf1 ∧
    State.reset.sense = Vector.replicate 8 ⟨State.reset.cfg.senseCodes.noSense, 0, 0, 0⟩) ∧
  ∀ s : State, s.seq = .rst1 →
    ∃ t, play [.seq, .seq] s = ([], .next t) ∧
      t.out = ⟨false, false, false, false, false⟩ ∧ t.dbDir = .input ∧ t.resetFlag = false ∧ t.lunValid = false ∧
      t.phase = .busFree ∧ t.seq = .bf1 ∧ t.sense = Vector.replicate 8 ⟨s.cfg.senseCodes.noSense, 0, 0, 0⟩ ∧
      t.dbOut = s.dbOut ∧ t.rstPending = s.rstPending ∧ t.cdb = s.cdb ∧ t.buf = s.buf ∧ t.n = s.n ∧
      t.polls = s.polls ∧ t.selByte = s.selByte ∧ t.curLun = s.curLun ∧ t.status = s.status ∧ t.calls = s.calls

/-! ### Reset Monitor and host -/

/-- The Reset Monitor's step, everything it does. That `Error(HostReset)` is recorded in it is the model's choice (log
entry 15). -/
def Obligations.ResetMonitorStep : Prop :=
  ∀ s : State, s.rstPending = true → agentStep .mon s = .next
    { s with resetFlag := true, rstPending := false, diag := .error .hostReset :: s.diag }

/-- The edge capture: in the step in which the host changes RST from de-asserted to asserted, `rst_pending` is set;
a release captures nothing and neither does a RST that is held. -/
def Obligations.RstEdgeCapture : Prop :=
  ∀ (a : Bool) (s : State), agentStep (.host (.line .rst a)) s = .next
    { s with
      host := { s.host with rst := a }
      rstPending := if a = true ∧ s.host.rst = false then true else s.rstPending }

/-- What the host's moves on SEL, ACK, ATN and the data bus write, that driving the data bus is refused exactly while
the target drives it, and that a host that keeps its duties is never refused in a state that meets the invariant.
(The moves on RST are `Obligations.RstEdgeCapture`.) -/
def Obligations.DutifulHostNeverRefused : Prop :=
  (∀ (a : Bool) (b : Byte) (s : State),
    agentStep (.host (.line .sel a)) s = .next { s with host := { s.host with sel := a } } ∧
    agentStep (.host (.line .ack a)) s = .next { s with host := { s.host with ack := a } } ∧
    agentStep (.host (.line .atn a)) s = .next { s with host := { s.host with atn := a } } ∧
    agentStep (.host .release) s = .next { s with host := { s.host with db := none } } ∧
    agentStep (.host (.drive b)) s =
      if s.dbDir = .output then .refused .busContention
      else .next { s with host := { s.host with db := some b } }) ∧
  ∀ (d : HostDuty) (m : HostMove) (s : State), s.Inv → dutiful d (.host m) s = true →
    ∃ t, agentStep (.host m) s = .next t

/-! ### Whole-machine invariants -/

/-- The invariant holds after power-on. -/
def Obligations.InvAtReset : Prop := State.reset.Inv

/-- Every step of every agent keeps the invariant. `State.Inv` has R43 item 4 as the spec states it, which rests on the
model's placement of `phase <- BusFree` (log entry 9), and item 3 as the model reads it (log entry 26): it says that BSY
is de-asserted at `SEL1`, before R185 asserts it, and says nothing of BSY at `RST1`, before R199 releases it. Item 5 is
`Obligations.DirectionHeldUnderReq`. -/
def Obligations.InvStep : Prop := ∀ s t : State, s.Inv → step s = .next t → t.Inv

/-- From a state that meets the invariant no step is a violated precondition or a stray position. -/
def Obligations.NoFault : Prop := ∀ (s : State) (f : Fault), s.Inv → step s ≠ .fault f

/-- While REQ is asserted no step changes the bus direction, a phase flag or BSY. -/
def Obligations.DirectionHeldUnderReq : Prop :=
  ∀ s t : State, s.Inv → s.out.req = true → step s = .next t →
    t.dbDir = s.dbDir ∧ t.out.msg = s.out.msg ∧ t.out.cd = s.out.cd ∧ t.out.io = s.out.io ∧ t.out.bsy = s.out.bsy

/-- The phase register moves only as the transition table allows. -/
def Obligations.PhaseTable : Prop :=
  ∀ s t : State, s.Inv → step s = .next t → t.phase = s.phase ∨ phaseStepAllowed s.phase t.phase = true

/-- Who writes what: SEQ never writes `rst_pending`, the configuration or the host's lines; MON writes `reset_flag` and
`rst_pending` only; the host writes its own lines, and `rst_pending` where it moves RST. -/
def Obligations.Ownership : Prop :=
  (∀ s t : State, agentStep .seq s = .next t →
    t.rstPending = s.rstPending ∧ t.cfg = s.cfg ∧ t.host = s.host ∧ t.sched = s.sched) ∧
  (∀ s t : State, agentStep .mon s = .next t →
    ∃ f p d, t = { s with resetFlag := f, rstPending := p, diag := d }) ∧
  ∀ (m : HostMove) (s t : State), agentStep (.host m) s = .next t →
    ∃ h p, t = { s with host := h, rstPending := p } ∧ ((∀ a, m ≠ .line .rst a) → p = s.rstPending)

/-- What a handler may not do: BSY, the LUN, the CDB and the latched byte stay, the Reset Flag is set by a time-out
only and never cleared, control stays inside `dispatch` or returns from it, and status and sense are written at the
return only. -/
def Obligations.HandlerRights : Prop :=
  ∀ (i : Instr) (s t : State), exec i s = .next t →
    t.out.bsy = s.out.bsy ∧ t.lunValid = s.lunValid ∧ t.curLun = s.curLun ∧ t.selByte = s.selByte ∧
    t.cdb = s.cdb ∧ t.rstPending = s.rstPending ∧ t.host = s.host ∧
    (t.resetFlag = s.resetFlag ∨ t.resetFlag = true ∧ ∃ dir, s.seq.engine = some (dir, .timeout)) ∧
    (t.seq = .disp1 ∨ ∃ k, t.seq = .handler k) ∧
    (t.seq ≠ .disp1 → t.sense = s.sense ∧ t.status = s.status)

/-- What `dispatch` returns: Good with the cleared record or CheckCondition with a record of a code and zero info
bytes, written to the LUN's record and to no other. -/
def Obligations.DispatchResult : Prop :=
  ∀ (i : Instr) (s t : State), exec i s = .next t → t.seq = .disp1 →
    ∃ code, t.sense = s.sense.set s.curLun ⟨code, 0, 0, 0⟩ ∧
      (t.status = s.cfg.statusGood ∧ code = s.cfg.senseCodes.noSense ∨ t.status = s.cfg.statusCheckCondition)

/-- A partial block is never persisted: WRITE6, FCODE_WRITE, V_SELECT and V_PATH make a call only where a block is
complete, and reach that point only with the 256th byte. -/
def Obligations.PartialBlockNeverPersisted : Prop :=
  ∀ (i : Instr) (f : Fields) (s t : State),
    i = .write6 f ∨ i = .fcodeWrite f ∨ i = .vSelect f ∨ i = .vPath f → exec i s = .next t →
    (t.calls ≠ s.calls → ∃ k, s.seq = .handler (.call k)) ∧
    (∀ k, t.seq = .handler (.call k) →
      s.n = 255 ∧ t.n = 256 ∧ s.seq = .handler (.block .fromHost k (.dp2 .sample)))

/-! ### Commands -/

/-- One step of the machine at `SQ_DISPATCH` or inside a handler, where SEQ has the move, is the step of the command
that `cdb` decodes to; the move is taken from the schedule. That a handler under way is known from
`cdb` alone is the model's reading (log entry 12). That the step at `CMD3`, with the flag clear, is the step of a command
whose handler takes no step of its own is the model's reading of R12 too (log entry 11). -/
def Obligations.StepRunsDecoded : Prop :=
  ∀ s : State, nextMove s = .seq →
    ((s.seq = .disp ∨ ∃ k, s.seq = .handler k) →
      step s = exec (decodeCdb s.cfg.opc s.cdb) { s with sched := s.sched.tail }) ∧
    (s.seq = .cmd3 → s.resetFlag = false → returnsAtOnce (decodeCdb s.cfg.opc s.cdb) s = true →
      step s = exec (decodeCdb s.cfg.opc s.cdb) { s with sched := s.sched.tail, seq := .disp })

/-- TEST UNIT READY, REZERO UNIT and SEEK: one `lunReady` call, whose answer decides status and sense. The
records written out beside them are the model's (log entries 4, 6, 15, 16). -/
def Obligations.ReadinessCommands : Prop :=
  ∀ (i : Instr) (f : Fields) (s : State),
    i = .testUnitReady f ∨ i = .rezeroUnit f ∨ i = .seek f → s.seq = .disp →
    exec i s = .next
      { afterCall (.lunReady s.curLun) s with
        status := if (nextAnswer s).flag then s.cfg.statusGood else s.cfg.statusCheckCondition
        sense := s.sense.set s.curLun
          ⟨if (nextAnswer s).flag then s.cfg.senseCodes.noSense else s.cfg.senseCodes.notReady, 0, 0, 0⟩
        seq := .disp1
        diag := (if (nextAnswer s).flag then [] else [.error (.storageFailure .notReady)]) ++
          .commandDecoded s.cdb :: s.diag }

/-- FORMAT, START/STOP and SELECT: one `metaPut` of the empty string with the whole CDB, whose answer decides status
and sense. -/
def Obligations.MetadataCommands : Prop :=
  ∀ (i : Instr) (kind : MetaKind) (f : Fields) (s : State),
    i = .format f ∧ kind = .format ∨ i = .startStop f ∧ kind = .startStop ∨ i = .select f ∧ kind = .select →
    s.seq = .disp →
    exec i s = .next
      (match (nextAnswer s).err with
      | none =>
        { afterCall (.metaPut kind s.curLun s.cdb []) s with
          status := s.cfg.statusGood
          sense := s.sense.set s.curLun ⟨s.cfg.senseCodes.noSense, 0, 0, 0⟩
          seq := .disp1
          diag := .commandDecoded s.cdb :: s.diag }
      | some e =>
        { afterCall (.metaPut kind s.curLun s.cdb []) s with
          status := s.cfg.statusCheckCondition
          sense := s.sense.set s.curLun ⟨senseOf s.cfg.senseCodes e, 0, 0, 0⟩
          seq := .disp1
          diag := .error (.storageFailure e) :: .commandDecoded s.cdb :: s.diag })

/-- The mapping of the collaborator's error kinds, which the spec marks as its own (R275, D29). -/
def Obligations.StorageErrorMapping : Prop :=
  ∀ c : SenseCodes, senseOf c .notReady = c.notReady ∧ senseOf c .notFound = c.notFound ∧
    senseOf c .ioError = c.ioError

/-- VERIFY's step for block `k`: one `readSector` at `lba + k`; the first error ends it, the last block returns Good.
Whether `buf` is overwritten is left open (log entry 14). -/
def Obligations.VerifyCommand : Prop :=
  ∀ (f : Fields) (k : Nat) (s : State), s.seq = .disp ∧ k = 0 ∨ s.seq = .handler (.call k) →
    let called := afterCall (.readSector s.curLun (blockAddr f k)) s
    let seen := if s.seq = .disp then .commandDecoded s.cdb :: s.diag else s.diag
    let kept := fun b : Block => if s.cfg.verifyFillsBuf then Memory.ofBytes 0 b.toList else s.buf
    exec (.verify f) s = .next
      (match (nextAnswer s).err with
      | some e =>
        { called with
          status := s.cfg.statusCheckCondition
          sense := s.sense.set s.curLun ⟨senseOf s.cfg.senseCodes e, 0, 0, 0⟩
          seq := .disp1
          diag := .error (.storageFailure e) :: seen }
      | none =>
        if k + 1 < blockCount f then
          { called with buf := kept (nextAnswer s).block, seq := .handler (.call (k + 1)), diag := seen }
        else
          { called with
            buf := kept (nextAnswer s).block
            status := s.cfg.statusGood
            sense := s.sense.set s.curLun ⟨s.cfg.senseCodes.noSense, 0, 0, 0⟩
            seq := .disp1
            diag := seen })

/-- An unmatched opcode: CheckCondition with the invalid-command code, no storage call, no data phase, no line
touched. SEQ runs it inside `CMD3` (`Obligations.StepRunsDecoded`). -/
def Obligations.IllegalCommand : Prop :=
  ∀ (op : Byte) (f : Fields) (s : State), s.seq = .disp →
    exec (.illegal op f) s = .next
      { s with
        status := s.cfg.statusCheckCondition
        sense := s.sense.set s.curLun ⟨s.cfg.senseCodes.invalidCommand, 0, 0, 0⟩
        seq := .disp1
        diag := .error (.protocolFailure s.cfg.senseCodes.invalidCommand) :: .commandDecoded s.cdb :: s.diag }

/-- READ(6)'s fetch of block `k`: one `readSector` at `lba + k`; the sector fills `buf` before the bus is touched,
and an error ends the command there. -/
def Obligations.Read6Fetch : Prop :=
  ∀ (f : Fields) (k : Nat) (s : State), s.seq = .disp ∧ k = 0 ∨ s.seq = .handler (.call k) →
    let called := afterCall (.readSector s.curLun (blockAddr f k)) s
    let seen := if s.seq = .disp then .commandDecoded s.cdb :: s.diag else s.diag
    exec (.read6 f) s = .next
      (match (nextAnswer s).err with
      | some e =>
        { called with
          status := s.cfg.statusCheckCondition
          sense := s.sense.set s.curLun ⟨senseOf s.cfg.senseCodes e, 0, 0, 0⟩
          seq := .disp1
          diag := .error (.storageFailure e) :: seen }
      | none =>
        { called with
          buf := Memory.ofBytes 0 (nextAnswer s).block.toList
          seq := .handler (.block .toHost k .dp0)
          diag := seen })

/-- READ(6) at the last byte of block `k`: the next block's fetch, or Good after the last block. -/
def Obligations.Read6BlockSent : Prop :=
  ∀ (f : Fields) (k : Nat) (s : State), s.seq = .handler (.block .toHost k (.dp2 .release)) → s.n = 255 →
    exec (.read6 f) s = .next
      (if k + 1 < blockCount f then
        { s with
          out := { s.out with req := false }
          n := 256
          seq := .handler (.call (k + 1))
          diag := .blockMoved .toHost 256 :: s.diag }
      else
        { s with
          out := { s.out with req := false }
          n := 256
          status := s.cfg.statusGood
          sense := s.sense.set s.curLun ⟨s.cfg.senseCodes.noSense, 0, 0, 0⟩
          seq := .disp1
          diag := .blockMoved .toHost 256 :: s.diag })

/-- WRITE(6) with block `k` received: one `writeSector` of all 256 bytes of `buf` at `lba + k`; an error ends the
command, otherwise the next block is asked for, or the command returns Good. -/
def Obligations.Write6Store : Prop :=
  ∀ (f : Fields) (k : Nat) (s : State), s.seq = .handler (.call k) →
    let called := afterCall (.writeSector s.curLun (blockAddr f k) s.buf.block) s
    exec (.write6 f) s = .next
      (match (nextAnswer s).err with
      | some e =>
        { called with
          status := s.cfg.statusCheckCondition
          sense := s.sense.set s.curLun ⟨senseOf s.cfg.senseCodes e, 0, 0, 0⟩
          seq := .disp1
          diag := .error (.storageFailure e) :: s.diag }
      | none =>
        if k + 1 < blockCount f then { called with seq := .handler (.block .fromHost (k + 1) .dp0) }
        else
          { called with
            status := s.cfg.statusGood
            sense := s.sense.set s.curLun ⟨s.cfg.senseCodes.noSense, 0, 0, 0⟩
            seq := .disp1 })

/-- FCODE_READ, V_SENSE, V_INFO and V_READ: one `metaGet` with the whole CDB; its string, padded with zeros to one
block, fills `buf`. -/
def Obligations.VendorInFetch : Prop :=
  ∀ (i : Instr) (kind : MetaKind) (f : Fields) (s : State),
    i = .fcodeRead f ∧ kind = .fcode ∨ i = .vSense f ∧ kind = .vSense ∨ i = .vInfo f ∧ kind = .vInfo ∨
      i = .vRead f ∧ kind = .vRead →
    s.seq = .disp → (nextAnswer s).bytes.length ≤ 256 →
    exec i s = .next
      (match (nextAnswer s).err with
      | some e =>
        { afterCall (.metaGet kind s.curLun s.cdb) s with
          status := s.cfg.statusCheckCondition
          sense := s.sense.set s.curLun ⟨senseOf s.cfg.senseCodes e, 0, 0, 0⟩
          seq := .disp1
          diag := .error (.storageFailure e) :: .commandDecoded s.cdb :: s.diag }
      | none =>
        { afterCall (.metaGet kind s.curLun s.cdb) s with
          buf := Memory.ofBytes 0
            ((nextAnswer s).bytes ++ List.replicate (256 - (nextAnswer s).bytes.length) 0)
          seq := .handler (.block .toHost 0 .dp0)
          diag := .commandDecoded s.cdb :: s.diag })

/-- FCODE_READ, V_SENSE, V_INFO and V_READ at the last byte of their block: Good, with the record cleared. -/
def Obligations.VendorInSent : Prop :=
  ∀ (i : Instr) (f : Fields) (k : Nat) (s : State),
    i = .fcodeRead f ∨ i = .vSense f ∨ i = .vInfo f ∨ i = .vRead f →
    s.seq = .handler (.block .toHost k (.dp2 .release)) → s.n = 255 →
    exec i s = .next
      { s with
        out := { s.out with req := false }
        n := 256
        status := s.cfg.statusGood
        sense := s.sense.set s.curLun ⟨s.cfg.senseCodes.noSense, 0, 0, 0⟩
        seq := .disp1
        diag := .blockMoved .toHost 256 :: s.diag }

/-- FCODE_WRITE, V_SELECT and V_PATH with their block received: one `metaPut` of all 256 bytes with the whole CDB. -/
def Obligations.VendorOutStore : Prop :=
  ∀ (i : Instr) (kind : MetaKind) (f : Fields) (k : Nat) (s : State),
    i = .fcodeWrite f ∧ kind = .fcode ∨ i = .vSelect f ∧ kind = .vSelect ∨ i = .vPath f ∧ kind = .vPath →
    s.seq = .handler (.call k) →
    exec i s = .next
      (match (nextAnswer s).err with
      | some e =>
        { afterCall (.metaPut kind s.curLun s.cdb s.buf.block) s with
          status := s.cfg.statusCheckCondition
          sense := s.sense.set s.curLun ⟨senseOf s.cfg.senseCodes e, 0, 0, 0⟩
          seq := .disp1
          diag := .error (.storageFailure e) :: s.diag }
      | none =>
        { afterCall (.metaPut kind s.curLun s.cdb s.buf.block) s with
          status := s.cfg.statusGood
          sense := s.sense.set s.curLun ⟨s.cfg.senseCodes.noSense, 0, 0, 0⟩
          seq := .disp1 })

/-- REQUEST SENSE and INQUIRY at `SQ_DISPATCH`: no storage call; what will be sent is the first `min(4, a)` bytes of
the LUN's record, or the first `min(INQ_LEN, len)` bytes of the identity data. Where that is nothing the command
returns Good at once, with no phase change; else the boundary PB4 comes first, and a true flag ends the handler. -/
def Obligations.SenseAndInquiryStart : Prop :=
  ∀ (i : Instr) (f : Fields) (bytes : List Byte) (s : State),
    i = .requestSense f ∧
        bytes = List.take (min 4 (if f.len = 0 then 4 else f.len.toNat))
          [s.sense[s.curLun].code, s.sense[s.curLun].info0, s.sense[s.curLun].info1, s.sense[s.curLun].info2] ∨
      i = .inquiry f ∧ bytes = s.cfg.inquiryData.take (min s.cfg.inquiryData.length f.len.toNat) →
    s.seq = .disp →
    exec i s = .next
      (if bytes = [] then
        { s with
          status := s.cfg.statusGood
          sense := s.sense.set s.curLun ⟨s.cfg.senseCodes.noSense, 0, 0, 0⟩
          seq := .disp1
          diag := .commandDecoded s.cdb :: s.diag }
      else if s.resetFlag then
        { s with
          status := s.cfg.statusCheckCondition
          sense := s.sense.set s.curLun ⟨s.cfg.senseCodes.transportFailure, 0, 0, 0⟩
          seq := .disp1
          diag := .commandDecoded s.cdb :: s.diag }
      else
        { s with
          phase := .dataIn
          seq := .handler (.bytesIn bytes .dp1)
          diag := .phaseEntry .dataIn :: .commandDecoded s.cdb :: s.diag })

/-- REQUEST SENSE, INQUIRY, TRANSLATE and MODE SENSE at the acknowledged last byte of their string: Good, with the
LUN's record cleared after the transfer. -/
def Obligations.ByteStringSent : Prop :=
  ∀ (i : Instr) (f : Fields) (b : Byte) (s : State),
    i = .requestSense f ∨ i = .inquiry f ∨ i = .translate f ∨ i = .modeSense f →
    s.seq = .handler (.bytesIn [b] (.dp2 .release)) →
    exec i s = .next
      { s with
        out := { s.out with req := false }
        status := s.cfg.statusGood
        sense := s.sense.set s.curLun ⟨s.cfg.senseCodes.noSense, 0, 0, 0⟩
        seq := .disp1 }

/-- TRANSLATE and MODE SENSE: one `metaGet` with the whole CDB; the whole string, or its first `len` bytes, is to be
sent, and where that is nothing the command returns Good at once. -/
def Obligations.TranslateAndModeSenseFetch : Prop :=
  ∀ (i : Instr) (kind : MetaKind) (f : Fields) (bytes : List Byte) (s : State),
    i = .translate f ∧ kind = .translate ∧ bytes = (nextAnswer s).bytes ∨
      i = .modeSense f ∧ kind = .modeParams ∧
        bytes = (nextAnswer s).bytes.take (min (nextAnswer s).bytes.length f.len.toNat) →
    s.seq = .disp → (nextAnswer s).bytes.length ≤ 256 →
    exec i s = .next
      (match (nextAnswer s).err with
      | some e =>
        { afterCall (.metaGet kind s.curLun s.cdb) s with
          status := s.cfg.statusCheckCondition
          sense := s.sense.set s.curLun ⟨senseOf s.cfg.senseCodes e, 0, 0, 0⟩
          seq := .disp1
          diag := .error (.storageFailure e) :: .commandDecoded s.cdb :: s.diag }
      | none =>
        if bytes = [] then
          { afterCall (.metaGet kind s.curLun s.cdb) s with
            status := s.cfg.statusGood
            sense := s.sense.set s.curLun ⟨s.cfg.senseCodes.noSense, 0, 0, 0⟩
            seq := .disp1
            diag := .commandDecoded s.cdb :: s.diag }
        else
          { afterCall (.metaGet kind s.curLun s.cdb) s with
            seq := .handler (.bytesIn bytes .dp0)
            diag := .commandDecoded s.cdb :: s.diag })

/-- MODE SELECT: with a parameter length of 0 its `metaPut` of the empty string is the first step, otherwise the
boundary PB4 is, after which DataOut is entered for `len` bytes, or the handler ends where the flag is true; with the bytes `q` received one `metaPut` of them decides status and sense. -/
def Obligations.ModeSelectCommand : Prop :=
  ∀ (f : Fields) (q : List Byte) (s : State),
    (s.seq = .disp → f.len ≠ 0 →
      exec (.modeSelect f) s = .next
        (if s.resetFlag then
          { s with
            status := s.cfg.statusCheckCondition
            sense := s.sense.set s.curLun ⟨s.cfg.senseCodes.transportFailure, 0, 0, 0⟩
            seq := .disp1
            diag := .commandDecoded s.cdb :: s.diag }
        else
          { s with
            phase := .dataOut
            seq := .handler (.bytesOut f.len.toNat [] .dp1)
            diag := .phaseEntry .dataOut :: .commandDecoded s.cdb :: s.diag })) ∧
    (s.seq = .disp ∧ f.len = 0 ∧ q = [] ∨ s.seq = .handler (.put q) →
      let seen := if s.seq = .disp then .commandDecoded s.cdb :: s.diag else s.diag
      exec (.modeSelect f) s = .next
        (match (nextAnswer s).err with
        | some e =>
          { afterCall (.metaPut .modeParams s.curLun s.cdb q) s with
            status := s.cfg.statusCheckCondition
            sense := s.sense.set s.curLun ⟨senseOf s.cfg.senseCodes e, 0, 0, 0⟩
            seq := .disp1
            diag := .error (.storageFailure e) :: seen }
        | none =>
          { afterCall (.metaPut .modeParams s.curLun s.cdb q) s with
            status := s.cfg.statusGood
            sense := s.sense.set s.curLun ⟨s.cfg.senseCodes.noSense, 0, 0, 0⟩
            seq := .disp1
            diag := seen }))

/-- WRITE(6), FCODE_WRITE, V_SELECT and V_PATH at `SQ_DISPATCH`: the boundary PB4, before any storage call; a clear
flag enters DataOut for the first block, a true one ends the handler with no line touched. That the register `n` keeps its
value there, where R206 returns 0 to the handler, is the model's choice (log entry 29). -/
def Obligations.DataOutStart : Prop :=
  ∀ (i : Instr) (f : Fields) (s : State),
    i = .write6 f ∨ i = .fcodeWrite f ∨ i = .vSelect f ∨ i = .vPath f → s.seq = .disp →
    exec i s = .next
      (if s.resetFlag then
        { s with
          status := s.cfg.statusCheckCondition
          sense := s.sense.set s.curLun ⟨s.cfg.senseCodes.transportFailure, 0, 0, 0⟩
          seq := .disp1
          diag := .commandDecoded s.cdb :: s.diag }
      else
        { s with
          phase := .dataOut
          seq := .handler (.block .fromHost 0 .dp1)
          diag := .phaseEntry .dataOut :: .commandDecoded s.cdb :: s.diag })

/-- The boundary PB4 at the start of every data procedure, for every command that stands there: a clear flag enters the
data phase, a true one ends the handler with no line touched. WRITE(6) (first block), FCODE_WRITE, V_SELECT, V_PATH,
MODE SELECT, REQUEST SENSE and INQUIRY stand there at `SQ_DISPATCH`, the others inside the handler. That the register `n`
keeps its value where a block procedure fails there, though R205 and R206 return 0 to the handler, is the model's choice
(log entry 29). -/
def Obligations.DataPhaseBoundary : Prop :=
  ∀ (i : Instr) (f : Fields) (k' : HandlerPos) (p : Phase) (s : State),
    (∃ j, s.seq = .handler (.block .toHost j .dp0) ∧ handlerMayStandAt i (.block .toHost j .dp0) = true ∧
        k' = .block .toHost j .dp1 ∧ p = .dataIn) ∨
      (∃ j, s.seq = .handler (.block .fromHost j .dp0) ∧ handlerMayStandAt i (.block .fromHost j .dp0) = true ∧
        k' = .block .fromHost j .dp1 ∧ p = .dataOut) ∨
      (∃ r, s.seq = .handler (.bytesIn r .dp0) ∧ handlerMayStandAt i (.bytesIn r .dp0) = true ∧
        k' = .bytesIn r .dp1 ∧ p = .dataIn) ∨
      (s.seq = .disp ∧ (i = .write6 f ∨ i = .fcodeWrite f ∨ i = .vSelect f ∨ i = .vPath f) ∧
        k' = .block .fromHost 0 .dp1 ∧ p = .dataOut) ∨
      (s.seq = .disp ∧ i = .modeSelect f ∧ f.len ≠ 0 ∧ k' = .bytesOut f.len.toNat [] .dp1 ∧ p = .dataOut) ∨
      (s.seq = .disp ∧ i = .requestSense f ∧ k' = .bytesIn (requestSenseBytes f s) .dp1 ∧ p = .dataIn) ∨
      (s.seq = .disp ∧ i = .inquiry f ∧ inquiryBytes f s ≠ [] ∧ k' = .bytesIn (inquiryBytes f s) .dp1 ∧
        p = .dataIn) →
    let seen := if s.seq = .disp then .commandDecoded s.cdb :: s.diag else s.diag
    exec i s = .next
      (if s.resetFlag then
        { s with
          status := s.cfg.statusCheckCondition
          sense := s.sense.set s.curLun ⟨s.cfg.senseCodes.transportFailure, 0, 0, 0⟩
          seq := .disp1
          diag := seen }
      else { s with phase := p, seq := .handler k', diag := .phaseEntry p :: seen })

/-- The triple of the data phases, driven before their bytes, for every command that has one: DataIn with I/O
asserted and the bus turned to output, DataOut with all three de-asserted and the bus input. A block starts its
count. -/
def Obligations.DataPhaseLines : Prop :=
  ∀ (i : Instr) (s : State), s.out.req = false →
    (∀ j, handlerMayStandAt i (.block .toHost j .dp1) = true → s.seq = .handler (.block .toHost j .dp1) →
      exec i s = .next
        { s with out := ⟨s.out.bsy, false, false, false, true⟩, dbDir := .output, n := 0,
                 seq := .handler (.block .toHost j (.dp2 .idle)) }) ∧
    (∀ j, handlerMayStandAt i (.block .fromHost j .dp1) = true → s.seq = .handler (.block .fromHost j .dp1) →
      exec i s = .next
        { s with out := ⟨s.out.bsy, false, false, false, false⟩, dbDir := .input, n := 0,
                 seq := .handler (.block .fromHost j (.dp2 .req)) }) ∧
    (∀ r, handlerMayStandAt i (.bytesIn r .dp1) = true → s.seq = .handler (.bytesIn r .dp1) →
      exec i s = .next
        { s with out := ⟨s.out.bsy, false, false, false, true⟩, dbDir := .output,
                 seq := .handler (.bytesIn r (.dp2 .idle)) }) ∧
    (∀ r q, handlerMayStandAt i (.bytesOut r q .dp1) = true → s.seq = .handler (.bytesOut r q .dp1) →
      exec i s = .next
        { s with out := ⟨s.out.bsy, false, false, false, false⟩, dbDir := .input,
                 seq := .handler (.bytesOut r q (.dp2 .req)) })

/-- A transfer that fails ends its handler, for every command that has a data phase: REQ released, CheckCondition
returned, and nothing more done: no further storage call, no further byte, the rest of the state as it was. -/
def Obligations.ShortTransferEndsHandler : Prop :=
  ∀ (i : Instr) (k : HandlerPos) (moved : List DiagEvent) (s : State),
    (∃ dir j, k = .block dir j (.dp2 .abort) ∧ s.n < 256 ∧ moved = [.blockMoved dir s.n]) ∨
      (∃ b r, k = .bytesIn (b :: r) (.dp2 .abort) ∧ moved = []) ∨
      (∃ r q, k = .bytesOut (r + 1) q (.dp2 .abort) ∧ moved = []) →
    handlerMayStandAt i k = true → s.seq = .handler k →
    exec i s = .next
      { s with
        out := { s.out with req := false }
        status := s.cfg.statusCheckCondition
        sense := s.sense.set s.curLun ⟨s.cfg.senseCodes.transportFailure, 0, 0, 0⟩
        seq := .disp1
        diag := moved ++ s.diag }
end

