-- ==== Sys2Proof/Laws/Decode.lean ====
section
/-! SUPPORT. The fields and the bytes of a CDB determine each other (30_encoding.md R98, R115). -/

namespace Sys2Proof

theorem split_lba (x : BitVec 5) (y z : BitVec 8) :
    BitVec.extractLsb' 16 5 (x ++ y ++ z) = x ∧ BitVec.extractLsb' 8 8 (x ++ y ++ z) = y ∧
      BitVec.extractLsb' 0 8 (x ++ y ++ z) = z := by
  refine ⟨?_, ?_, ?_⟩ <;>
    (apply BitVec.eq_of_getLsbD_eq; intro i hi; interval_cases i <;>
      simp only [BitVec.getLsbD_append, BitVec.getLsbD_extractLsb'] <;> rfl)

theorem join_lba (a : BitVec (5 + 8 + 8)) :
    BitVec.extractLsb' 16 5 a ++ BitVec.extractLsb' 8 8 a ++ BitVec.extractLsb' 0 8 a = a := by
  apply BitVec.eq_of_getLsbD_eq
  intro i hi
  simp only [BitVec.getLsbD_append, BitVec.getLsbD_extractLsb']
  interval_cases i <;> rfl

theorem split_byte1 (l : BitVec 3) (h : BitVec 5) :
    BitVec.extractLsb' 5 3 (l ++ h) = l ∧ BitVec.extractLsb' 0 5 (l ++ h) = h := by
  refine ⟨?_, ?_⟩ <;>
    (apply BitVec.eq_of_getLsbD_eq; intro i hi; interval_cases i <;>
      simp only [BitVec.getLsbD_append, BitVec.getLsbD_extractLsb'] <;> rfl)

theorem join_byte1 (b : BitVec (3 + 5)) : BitVec.extractLsb' 5 3 b ++ BitVec.extractLsb' 0 5 b = b := by
  apply BitVec.eq_of_getLsbD_eq
  intro i hi
  simp only [BitVec.getLsbD_append, BitVec.getLsbD_extractLsb']
  interval_cases i <;> rfl

/-- The bytes assembled from a CDB's fields are its bytes. -/
theorem assemble_fields (op : Byte) (c : Cdb) : assemble op c.fields = { c with b0 := op } := by
  simp only [assemble, Cdb.fields, Cdb.mk.injEq, true_and, and_true]
  obtain ⟨h1, h2, h3⟩ := split_lba (BitVec.extractLsb' 0 5 c.b1) c.b2 c.b3
  exact ⟨(congrArg (BitVec.extractLsb' 5 3 c.b1 ++ ·) h1).trans (join_byte1 c.b1), h2, h3⟩

/-- The fields of an assembled CDB are the fields it was assembled from. -/
theorem fields_assemble (op : Byte) (f : Fields) : (assemble op f).fields = f := by
  obtain ⟨l, a, n, c⟩ := f
  simp only [assemble, Cdb.fields, Fields.mk.injEq, and_true]
  obtain ⟨h1, h2⟩ := split_byte1 l (BitVec.extractLsb' 16 5 a)
  exact ⟨h1, (congrArg (· ++ BitVec.extractLsb' 8 8 a ++ BitVec.extractLsb' 0 8 a) h2).trans (join_lba a)⟩

@[simp] theorem assemble_b0 (op : Byte) (f : Fields) : (assemble op f).b0 = op := rfl

/-- The decoder on exactly six bytes is the opcode match. -/
@[simp] theorem decode_toList (o : Opc) (c : Cdb) : decode o c.toList = .ok (decodeCdb o c) := rfl

end Sys2Proof
end

