-- ==== Sys2Proof/Laws/Memory.lean ====
section
/-! SUPPORT. The laws of the block buffer: what a byte reads as after each memory operation, and that each keeps the
canonical form. -/

namespace Sys2Proof.Machine

/-- Reading from an appended list: the first part's cell where it has one at `a`. -/
theorem Memory.read_append (m k : Memory) (a : Nat) :
    Memory.read (m ++ k) a = if ∃ c ∈ m, c.1 = a then Memory.read m a else Memory.read k a := by
  induction m with
  | nil => simp
  | cons c cs ih =>
    by_cases h : c.1 = a
    · simp [Memory.read, h]
    · simp [Memory.read, h, ih]

/-- A list without a cell at `a` reads there as an unlisted address does. -/
theorem Memory.read_of_absent (m : Memory) (a : Nat) (h : ∀ c ∈ m, c.1 ≠ a) : m.read a = Memory.unlisted := by
  induction m with
  | nil => rfl
  | cons c cs ih =>
    rw [Memory.read, if_neg (h c (by simp))]
    exact ih fun d hd => h d (by simp [hd])

@[simp] theorem Memory.read_cell_same (a : Nat) (b : Byte) : (Memory.cell a b).read a = b := by
  unfold Memory.cell
  split <;> simp_all [Memory.read]

theorem Memory.mem_cell {a : Nat} {b : Byte} {c : Host.Cell} (h : c ∈ Memory.cell a b) :
    c.1 = a ∧ c.2 ≠ Memory.unlisted := by
  unfold Memory.cell at h
  split at h <;> simp_all

theorem Memory.wf_tail {c : Host.Cell} {cs : Memory} (h : Memory.wf (c :: cs)) : Memory.wf cs :=
  ⟨(List.pairwise_cons.1 h.1).2, fun d hd => h.2 d (by simp [hd])⟩

theorem Memory.head_lt {c : Host.Cell} {cs : Memory} (h : Memory.wf (c :: cs)) : ∀ d ∈ cs, c.1 < d.1 :=
  (List.pairwise_cons.1 h.1).1

/-- Prefixing the cell of a lower address keeps the canonical form. -/
theorem Memory.wf_cell_append {m : Memory} (a : Nat) (b : Byte) (h : m.wf) (hl : ∀ c ∈ m, a < c.1) :
    (Memory.cell a b ++ m).wf := by
  unfold Memory.cell
  split
  · simpa using h
  · rename_i hb
    refine ⟨List.pairwise_cons.2 ⟨hl, h.1⟩, ?_⟩
    intro c hc
    rcases List.mem_cons.1 hc with rfl | hc
    · exact hb
    · exact h.2 c hc

theorem Memory.mem_write {m : Memory} {a : Nat} {b : Byte} {c : Host.Cell} (h : c ∈ m.write a b) :
    c ∈ m ∨ c ∈ Memory.cell a b := by
  induction m with
  | nil => exact .inr h
  | cons d ds ih =>
    unfold Memory.write at h
    split at h
    · rcases List.mem_cons.1 h with rfl | h
      · exact .inl (by simp)
      · exact (ih h).imp (fun x => by simp [x]) id
    · split at h <;> simp only [List.mem_append, List.mem_cons] at h ⊢ <;> tauto

/-- A write keeps the canonical form. -/
theorem Memory.write_wf {m : Memory} (a : Nat) (b : Byte) (h : m.wf) : (m.write a b).wf := by
  induction m with
  | nil => simpa [Memory.write] using Memory.wf_cell_append (m := []) a b h (by simp)
  | cons c cs ih =>
    have hc := Memory.head_lt h
    have hcs := Memory.wf_tail h
    unfold Memory.write
    split
    · rename_i hlt
      refine ⟨List.pairwise_cons.2 ⟨fun d hd => ?_, (ih hcs).1⟩, fun d hd => ?_⟩
      · rcases Memory.mem_write hd with hd | hd
        · exact hc d hd
        · exact (Memory.mem_cell hd).1 ▸ hlt
      · rcases List.mem_cons.1 hd with rfl | hd
        · exact h.2 d (by simp)
        · exact (ih hcs).2 d hd
    · split
      · rename_i heq
        exact Memory.wf_cell_append a b hcs fun d hd => heq ▸ hc d hd
      · refine Memory.wf_cell_append a b h fun d hd => ?_
        rcases List.mem_cons.1 hd with rfl | hd
        · omega
        · have := hc d hd
          omega

/-- A write stays inside a bound on addresses. -/
theorem Memory.write_bound {m : Memory} {a : Nat} (b : Byte) {k : Nat} (h : ∀ c ∈ m, c.1 < k) (ha : a < k) :
    ∀ c ∈ m.write a b, c.1 < k := by
  intro c hc
  rcases Memory.mem_write hc with hc | hc
  · exact h c hc
  · exact (Memory.mem_cell hc).1 ▸ ha

theorem Memory.read_cell_append_other {m : Memory} {a x : Nat} (b : Byte) (h : x ≠ a) :
    (Memory.cell a b ++ m).read x = m.read x := by
  unfold Memory.cell
  split
  · rfl
  · simp [Memory.read, Ne.symm h]

theorem Memory.read_cell_append_same {m : Memory} {a : Nat} (b : Byte) (h : ∀ c ∈ m, c.1 ≠ a) :
    (Memory.cell a b ++ m).read a = b := by
  unfold Memory.cell
  split
  · rename_i hb
    simpa [hb] using Memory.read_of_absent m a h
  · simp [Memory.read]

/-- A read of the byte just written gives the value written. -/
theorem Memory.read_write_same {m : Memory} (a : Nat) (b : Byte) (h : m.wf) : (m.write a b).read a = b := by
  induction m with
  | nil => simp [Memory.write]
  | cons c cs ih =>
    have hc := Memory.head_lt h
    unfold Memory.write
    split
    · rename_i hlt
      rw [Memory.read, if_neg (by omega)]
      exact ih (Memory.wf_tail h)
    · split
      · exact Memory.read_cell_append_same b fun d hd => by have := hc d hd; omega
      · refine Memory.read_cell_append_same b fun d hd => ?_
        rcases List.mem_cons.1 hd with rfl | hd
        · assumption
        · have := hc d hd
          omega

/-- A write leaves every other byte alone. -/
theorem Memory.read_write_other (m : Memory) {a x : Nat} (b : Byte) (h : x ≠ a) :
    (m.write a b).read x = m.read x := by
  induction m with
  | nil => simpa [Memory.write] using Memory.read_cell_append_other (m := []) b h
  | cons c cs ih =>
    unfold Memory.write
    split
    · simp only [Memory.read, ih]
    · split
      · rename_i heq
        rw [Memory.read_cell_append_other b h, Memory.read, if_neg (by omega)]
      · exact Memory.read_cell_append_other b h

theorem Memory.mem_ofBytes {bs : List Byte} {a : Nat} {c : Host.Cell} (h : c ∈ Memory.ofBytes a bs) :
    a ≤ c.1 ∧ c.1 < a + bs.length := by
  induction bs generalizing a with
  | nil => simp [Memory.ofBytes] at h
  | cons b bs ih =>
    rw [Memory.ofBytes, List.mem_append] at h
    rcases h with h | h
    · have := (Memory.mem_cell h).1
      simp only [List.length_cons]
      omega
    · have := ih h
      simp only [List.length_cons]
      omega

/-- Loading a byte string gives the canonical form. -/
theorem Memory.ofBytes_wf (a : Nat) (bs : List Byte) : (Memory.ofBytes a bs).wf := by
  induction bs generalizing a with
  | nil => simp [Memory.ofBytes, Memory.wf]
  | cons b bs ih =>
    exact Memory.wf_cell_append a b (ih (a + 1)) fun c hc => by have := Memory.mem_ofBytes hc; omega

/-- Byte `a + i` of a loaded byte string is its byte `i`. -/
theorem Memory.read_ofBytes (a : Nat) (bs : List Byte) (i : Nat) (h : i < bs.length) :
    (Memory.ofBytes a bs).read (a + i) = bs[i] := by
  induction bs generalizing a i with
  | nil => simp at h
  | cons b bs ih =>
    rw [Memory.ofBytes]
    cases i with
    | zero =>
      exact Memory.read_cell_append_same b fun c hc => by have := Memory.mem_ofBytes hc; omega
    | succ i =>
      rw [Memory.read_cell_append_other b (by omega)]
      have := ih (a + 1) i (by simpa using h)
      rw [show a + 1 + i = a + (i + 1) by omega] at this
      simpa using this

@[simp] theorem Memory.block_length (m : Memory) : m.block.length = blockSize := by simp [Memory.block]

/-- The 256 bytes of a loaded block are the block. -/
theorem Memory.block_ofBytes (bs : List Byte) (h : bs.length = blockSize) : (Memory.ofBytes 0 bs).block = bs := by
  apply List.ext_getElem
  · simp [h]
  · intro i h1 h2
    have := Memory.read_ofBytes 0 bs i h2
    simpa [Memory.block] using this

@[simp] theorem padBlock_length (bs : List Byte) : (padBlock bs).length = blockSize := by
  simp only [padBlock, List.length_append, List.length_take, List.length_replicate]
  omega

end Sys2Proof.Machine
end

