-- ==== Sys2Proof/Laws/State.lean ====
section
/-! SUPPORT. One lemma per field per named update of the state, so that no proof unfolds a record update. -/

namespace Sys2Proof.Machine


/-! `goto` -/

@[simp] theorem goto_out (q : Seq) (s : State) : (goto q s).out = s.out := rfl
@[simp] theorem goto_dbDir (q : Seq) (s : State) : (goto q s).dbDir = s.dbDir := rfl
@[simp] theorem goto_dbOut (q : Seq) (s : State) : (goto q s).dbOut = s.dbOut := rfl
@[simp] theorem goto_resetFlag (q : Seq) (s : State) : (goto q s).resetFlag = s.resetFlag := rfl
@[simp] theorem goto_rstPending (q : Seq) (s : State) : (goto q s).rstPending = s.rstPending := rfl
@[simp] theorem goto_lunValid (q : Seq) (s : State) : (goto q s).lunValid = s.lunValid := rfl
@[simp] theorem goto_phase (q : Seq) (s : State) : (goto q s).phase = s.phase := rfl
@[simp] theorem goto_seq (q : Seq) (s : State) : (goto q s).seq = q := rfl
@[simp] theorem goto_cdb (q : Seq) (s : State) : (goto q s).cdb = s.cdb := rfl
@[simp] theorem goto_buf (q : Seq) (s : State) : (goto q s).buf = s.buf := rfl
@[simp] theorem goto_n (q : Seq) (s : State) : (goto q s).n = s.n := rfl
@[simp] theorem goto_polls (q : Seq) (s : State) : (goto q s).polls = s.polls := rfl
@[simp] theorem goto_selByte (q : Seq) (s : State) : (goto q s).selByte = s.selByte := rfl
@[simp] theorem goto_curLun (q : Seq) (s : State) : (goto q s).curLun = s.curLun := rfl
@[simp] theorem goto_status (q : Seq) (s : State) : (goto q s).status = s.status := rfl
@[simp] theorem goto_sense (q : Seq) (s : State) : (goto q s).sense = s.sense := rfl
@[simp] theorem goto_cfg (q : Seq) (s : State) : (goto q s).cfg = s.cfg := rfl
@[simp] theorem goto_host (q : Seq) (s : State) : (goto q s).host = s.host := rfl
@[simp] theorem goto_answers (q : Seq) (s : State) : (goto q s).answers = s.answers := rfl
@[simp] theorem goto_sched (q : Seq) (s : State) : (goto q s).sched = s.sched := rfl
@[simp] theorem goto_draws (q : Seq) (s : State) : (goto q s).draws = s.draws := rfl
@[simp] theorem goto_calls (q : Seq) (s : State) : (goto q s).calls = s.calls := rfl
@[simp] theorem goto_diag (q : Seq) (s : State) : (goto q s).diag = s.diag := rfl

/-! `emit` -/

@[simp] theorem emit_out (e : DiagEvent) (s : State) : (emit e s).out = s.out := rfl
@[simp] theorem emit_dbDir (e : DiagEvent) (s : State) : (emit e s).dbDir = s.dbDir := rfl
@[simp] theorem emit_dbOut (e : DiagEvent) (s : State) : (emit e s).dbOut = s.dbOut := rfl
@[simp] theorem emit_resetFlag (e : DiagEvent) (s : State) : (emit e s).resetFlag = s.resetFlag := rfl
@[simp] theorem emit_rstPending (e : DiagEvent) (s : State) : (emit e s).rstPending = s.rstPending := rfl
@[simp] theorem emit_lunValid (e : DiagEvent) (s : State) : (emit e s).lunValid = s.lunValid := rfl
@[simp] theorem emit_phase (e : DiagEvent) (s : State) : (emit e s).phase = s.phase := rfl
@[simp] theorem emit_seq (e : DiagEvent) (s : State) : (emit e s).seq = s.seq := rfl
@[simp] theorem emit_cdb (e : DiagEvent) (s : State) : (emit e s).cdb = s.cdb := rfl
@[simp] theorem emit_buf (e : DiagEvent) (s : State) : (emit e s).buf = s.buf := rfl
@[simp] theorem emit_n (e : DiagEvent) (s : State) : (emit e s).n = s.n := rfl
@[simp] theorem emit_polls (e : DiagEvent) (s : State) : (emit e s).polls = s.polls := rfl
@[simp] theorem emit_selByte (e : DiagEvent) (s : State) : (emit e s).selByte = s.selByte := rfl
@[simp] theorem emit_curLun (e : DiagEvent) (s : State) : (emit e s).curLun = s.curLun := rfl
@[simp] theorem emit_status (e : DiagEvent) (s : State) : (emit e s).status = s.status := rfl
@[simp] theorem emit_sense (e : DiagEvent) (s : State) : (emit e s).sense = s.sense := rfl
@[simp] theorem emit_cfg (e : DiagEvent) (s : State) : (emit e s).cfg = s.cfg := rfl
@[simp] theorem emit_host (e : DiagEvent) (s : State) : (emit e s).host = s.host := rfl
@[simp] theorem emit_answers (e : DiagEvent) (s : State) : (emit e s).answers = s.answers := rfl
@[simp] theorem emit_sched (e : DiagEvent) (s : State) : (emit e s).sched = s.sched := rfl
@[simp] theorem emit_draws (e : DiagEvent) (s : State) : (emit e s).draws = s.draws := rfl
@[simp] theorem emit_calls (e : DiagEvent) (s : State) : (emit e s).calls = s.calls := rfl
@[simp] theorem emit_diag (e : DiagEvent) (s : State) : (emit e s).diag = e :: s.diag := rfl

/-! `setPhase` -/

@[simp] theorem setPhase_out (p : Phase) (s : State) : (setPhase p s).out = s.out := rfl
@[simp] theorem setPhase_dbDir (p : Phase) (s : State) : (setPhase p s).dbDir = s.dbDir := rfl
@[simp] theorem setPhase_dbOut (p : Phase) (s : State) : (setPhase p s).dbOut = s.dbOut := rfl
@[simp] theorem setPhase_resetFlag (p : Phase) (s : State) : (setPhase p s).resetFlag = s.resetFlag := rfl
@[simp] theorem setPhase_rstPending (p : Phase) (s : State) : (setPhase p s).rstPending = s.rstPending := rfl
@[simp] theorem setPhase_lunValid (p : Phase) (s : State) : (setPhase p s).lunValid = s.lunValid := rfl
@[simp] theorem setPhase_phase (p : Phase) (s : State) : (setPhase p s).phase = p := rfl
@[simp] theorem setPhase_seq (p : Phase) (s : State) : (setPhase p s).seq = s.seq := rfl
@[simp] theorem setPhase_cdb (p : Phase) (s : State) : (setPhase p s).cdb = s.cdb := rfl
@[simp] theorem setPhase_buf (p : Phase) (s : State) : (setPhase p s).buf = s.buf := rfl
@[simp] theorem setPhase_n (p : Phase) (s : State) : (setPhase p s).n = s.n := rfl
@[simp] theorem setPhase_polls (p : Phase) (s : State) : (setPhase p s).polls = s.polls := rfl
@[simp] theorem setPhase_selByte (p : Phase) (s : State) : (setPhase p s).selByte = s.selByte := rfl
@[simp] theorem setPhase_curLun (p : Phase) (s : State) : (setPhase p s).curLun = s.curLun := rfl
@[simp] theorem setPhase_status (p : Phase) (s : State) : (setPhase p s).status = s.status := rfl
@[simp] theorem setPhase_sense (p : Phase) (s : State) : (setPhase p s).sense = s.sense := rfl
@[simp] theorem setPhase_cfg (p : Phase) (s : State) : (setPhase p s).cfg = s.cfg := rfl
@[simp] theorem setPhase_host (p : Phase) (s : State) : (setPhase p s).host = s.host := rfl
@[simp] theorem setPhase_answers (p : Phase) (s : State) : (setPhase p s).answers = s.answers := rfl
@[simp] theorem setPhase_sched (p : Phase) (s : State) : (setPhase p s).sched = s.sched := rfl
@[simp] theorem setPhase_draws (p : Phase) (s : State) : (setPhase p s).draws = s.draws := rfl
@[simp] theorem setPhase_calls (p : Phase) (s : State) : (setPhase p s).calls = s.calls := rfl
@[simp] theorem setPhase_diag (p : Phase) (s : State) : (setPhase p s).diag = .phaseEntry p :: s.diag := rfl

/-! `afterCall` -/

@[simp] theorem afterCall_out (c : StoreCall) (s : State) : (afterCall c s).out = s.out := rfl
@[simp] theorem afterCall_dbDir (c : StoreCall) (s : State) : (afterCall c s).dbDir = s.dbDir := rfl
@[simp] theorem afterCall_dbOut (c : StoreCall) (s : State) : (afterCall c s).dbOut = s.dbOut := rfl
@[simp] theorem afterCall_resetFlag (c : StoreCall) (s : State) : (afterCall c s).resetFlag = s.resetFlag := rfl
@[simp] theorem afterCall_rstPending (c : StoreCall) (s : State) : (afterCall c s).rstPending = s.rstPending := rfl
@[simp] theorem afterCall_lunValid (c : StoreCall) (s : State) : (afterCall c s).lunValid = s.lunValid := rfl
@[simp] theorem afterCall_phase (c : StoreCall) (s : State) : (afterCall c s).phase = s.phase := rfl
@[simp] theorem afterCall_seq (c : StoreCall) (s : State) : (afterCall c s).seq = s.seq := rfl
@[simp] theorem afterCall_cdb (c : StoreCall) (s : State) : (afterCall c s).cdb = s.cdb := rfl
@[simp] theorem afterCall_buf (c : StoreCall) (s : State) : (afterCall c s).buf = s.buf := rfl
@[simp] theorem afterCall_n (c : StoreCall) (s : State) : (afterCall c s).n = s.n := rfl
@[simp] theorem afterCall_polls (c : StoreCall) (s : State) : (afterCall c s).polls = s.polls := rfl
@[simp] theorem afterCall_selByte (c : StoreCall) (s : State) : (afterCall c s).selByte = s.selByte := rfl
@[simp] theorem afterCall_curLun (c : StoreCall) (s : State) : (afterCall c s).curLun = s.curLun := rfl
@[simp] theorem afterCall_status (c : StoreCall) (s : State) : (afterCall c s).status = s.status := rfl
@[simp] theorem afterCall_sense (c : StoreCall) (s : State) : (afterCall c s).sense = s.sense := rfl
@[simp] theorem afterCall_cfg (c : StoreCall) (s : State) : (afterCall c s).cfg = s.cfg := rfl
@[simp] theorem afterCall_host (c : StoreCall) (s : State) : (afterCall c s).host = s.host := rfl
@[simp] theorem afterCall_answers (c : StoreCall) (s : State) : (afterCall c s).answers = s.answers.tail := rfl
@[simp] theorem afterCall_sched (c : StoreCall) (s : State) : (afterCall c s).sched = s.sched := rfl
@[simp] theorem afterCall_draws (c : StoreCall) (s : State) : (afterCall c s).draws = if s.answers.isEmpty then s.draws + 1 else s.draws := rfl
@[simp] theorem afterCall_calls (c : StoreCall) (s : State) : (afterCall c s).calls = c :: s.calls := rfl
@[simp] theorem afterCall_diag (c : StoreCall) (s : State) : (afterCall c s).diag = s.diag := rfl

/-! `setSense` -/

@[simp] theorem setSense_out (l : Lun) (r : SenseRec) (s : State) : (setSense l r s).out = s.out := rfl
@[simp] theorem setSense_dbDir (l : Lun) (r : SenseRec) (s : State) : (setSense l r s).dbDir = s.dbDir := rfl
@[simp] theorem setSense_dbOut (l : Lun) (r : SenseRec) (s : State) : (setSense l r s).dbOut = s.dbOut := rfl
@[simp] theorem setSense_resetFlag (l : Lun) (r : SenseRec) (s : State) : (setSense l r s).resetFlag = s.resetFlag := rfl
@[simp] theorem setSense_rstPending (l : Lun) (r : SenseRec) (s : State) : (setSense l r s).rstPending = s.rstPending := rfl
@[simp] theorem setSense_lunValid (l : Lun) (r : SenseRec) (s : State) : (setSense l r s).lunValid = s.lunValid := rfl
@[simp] theorem setSense_phase (l : Lun) (r : SenseRec) (s : State) : (setSense l r s).phase = s.phase := rfl
@[simp] theorem setSense_seq (l : Lun) (r : SenseRec) (s : State) : (setSense l r s).seq = s.seq := rfl
@[simp] theorem setSense_cdb (l : Lun) (r : SenseRec) (s : State) : (setSense l r s).cdb = s.cdb := rfl
@[simp] theorem setSense_buf (l : Lun) (r : SenseRec) (s : State) : (setSense l r s).buf = s.buf := rfl
@[simp] theorem setSense_n (l : Lun) (r : SenseRec) (s : State) : (setSense l r s).n = s.n := rfl
@[simp] theorem setSense_polls (l : Lun) (r : SenseRec) (s : State) : (setSense l r s).polls = s.polls := rfl
@[simp] theorem setSense_selByte (l : Lun) (r : SenseRec) (s : State) : (setSense l r s).selByte = s.selByte := rfl
@[simp] theorem setSense_curLun (l : Lun) (r : SenseRec) (s : State) : (setSense l r s).curLun = s.curLun := rfl
@[simp] theorem setSense_status (l : Lun) (r : SenseRec) (s : State) : (setSense l r s).status = s.status := rfl
@[simp] theorem setSense_sense (l : Lun) (r : SenseRec) (s : State) : (setSense l r s).sense = s.sense.set l r := rfl
@[simp] theorem setSense_cfg (l : Lun) (r : SenseRec) (s : State) : (setSense l r s).cfg = s.cfg := rfl
@[simp] theorem setSense_host (l : Lun) (r : SenseRec) (s : State) : (setSense l r s).host = s.host := rfl
@[simp] theorem setSense_answers (l : Lun) (r : SenseRec) (s : State) : (setSense l r s).answers = s.answers := rfl
@[simp] theorem setSense_sched (l : Lun) (r : SenseRec) (s : State) : (setSense l r s).sched = s.sched := rfl
@[simp] theorem setSense_draws (l : Lun) (r : SenseRec) (s : State) : (setSense l r s).draws = s.draws := rfl
@[simp] theorem setSense_calls (l : Lun) (r : SenseRec) (s : State) : (setSense l r s).calls = s.calls := rfl
@[simp] theorem setSense_diag (l : Lun) (r : SenseRec) (s : State) : (setSense l r s).diag = s.diag := rfl

/-! `finish` -/

@[simp] theorem finish_out (r : Result) (s : State) : (finish r s).out = s.out := rfl
@[simp] theorem finish_dbDir (r : Result) (s : State) : (finish r s).dbDir = s.dbDir := rfl
@[simp] theorem finish_dbOut (r : Result) (s : State) : (finish r s).dbOut = s.dbOut := rfl
@[simp] theorem finish_resetFlag (r : Result) (s : State) : (finish r s).resetFlag = s.resetFlag := rfl
@[simp] theorem finish_rstPending (r : Result) (s : State) : (finish r s).rstPending = s.rstPending := rfl
@[simp] theorem finish_lunValid (r : Result) (s : State) : (finish r s).lunValid = s.lunValid := rfl
@[simp] theorem finish_phase (r : Result) (s : State) : (finish r s).phase = s.phase := rfl
@[simp] theorem finish_seq (r : Result) (s : State) : (finish r s).seq = .disp1 := rfl
@[simp] theorem finish_cdb (r : Result) (s : State) : (finish r s).cdb = s.cdb := rfl
@[simp] theorem finish_buf (r : Result) (s : State) : (finish r s).buf = s.buf := rfl
@[simp] theorem finish_n (r : Result) (s : State) : (finish r s).n = s.n := rfl
@[simp] theorem finish_polls (r : Result) (s : State) : (finish r s).polls = s.polls := rfl
@[simp] theorem finish_selByte (r : Result) (s : State) : (finish r s).selByte = s.selByte := rfl
@[simp] theorem finish_curLun (r : Result) (s : State) : (finish r s).curLun = s.curLun := rfl
@[simp] theorem finish_status (r : Result) (s : State) : (finish r s).status = r.status := rfl
@[simp] theorem finish_sense (r : Result) (s : State) : (finish r s).sense = s.sense.set s.curLun r.sense := rfl
@[simp] theorem finish_cfg (r : Result) (s : State) : (finish r s).cfg = s.cfg := rfl
@[simp] theorem finish_host (r : Result) (s : State) : (finish r s).host = s.host := rfl
@[simp] theorem finish_answers (r : Result) (s : State) : (finish r s).answers = s.answers := rfl
@[simp] theorem finish_sched (r : Result) (s : State) : (finish r s).sched = s.sched := rfl
@[simp] theorem finish_draws (r : Result) (s : State) : (finish r s).draws = s.draws := rfl
@[simp] theorem finish_calls (r : Result) (s : State) : (finish r s).calls = s.calls := rfl
@[simp] theorem finish_diag (r : Result) (s : State) : (finish r s).diag = s.diag := rfl

/-! `finishOk` -/

@[simp] theorem finishOk_out (s : State) : (finishOk s).out = s.out := rfl
@[simp] theorem finishOk_dbDir (s : State) : (finishOk s).dbDir = s.dbDir := rfl
@[simp] theorem finishOk_dbOut (s : State) : (finishOk s).dbOut = s.dbOut := rfl
@[simp] theorem finishOk_resetFlag (s : State) : (finishOk s).resetFlag = s.resetFlag := rfl
@[simp] theorem finishOk_rstPending (s : State) : (finishOk s).rstPending = s.rstPending := rfl
@[simp] theorem finishOk_lunValid (s : State) : (finishOk s).lunValid = s.lunValid := rfl
@[simp] theorem finishOk_phase (s : State) : (finishOk s).phase = s.phase := rfl
@[simp] theorem finishOk_seq (s : State) : (finishOk s).seq = .disp1 := rfl
@[simp] theorem finishOk_cdb (s : State) : (finishOk s).cdb = s.cdb := rfl
@[simp] theorem finishOk_buf (s : State) : (finishOk s).buf = s.buf := rfl
@[simp] theorem finishOk_n (s : State) : (finishOk s).n = s.n := rfl
@[simp] theorem finishOk_polls (s : State) : (finishOk s).polls = s.polls := rfl
@[simp] theorem finishOk_selByte (s : State) : (finishOk s).selByte = s.selByte := rfl
@[simp] theorem finishOk_curLun (s : State) : (finishOk s).curLun = s.curLun := rfl
@[simp] theorem finishOk_status (s : State) : (finishOk s).status = s.cfg.statusGood := rfl
@[simp] theorem finishOk_sense (s : State) : (finishOk s).sense = s.sense.set s.curLun (.cleared s.cfg.senseCodes) := rfl
@[simp] theorem finishOk_cfg (s : State) : (finishOk s).cfg = s.cfg := rfl
@[simp] theorem finishOk_host (s : State) : (finishOk s).host = s.host := rfl
@[simp] theorem finishOk_answers (s : State) : (finishOk s).answers = s.answers := rfl
@[simp] theorem finishOk_sched (s : State) : (finishOk s).sched = s.sched := rfl
@[simp] theorem finishOk_draws (s : State) : (finishOk s).draws = s.draws := rfl
@[simp] theorem finishOk_calls (s : State) : (finishOk s).calls = s.calls := rfl
@[simp] theorem finishOk_diag (s : State) : (finishOk s).diag = s.diag := rfl

/-! `finishXfail` -/

@[simp] theorem finishXfail_out (s : State) : (finishXfail s).out = s.out := rfl
@[simp] theorem finishXfail_dbDir (s : State) : (finishXfail s).dbDir = s.dbDir := rfl
@[simp] theorem finishXfail_dbOut (s : State) : (finishXfail s).dbOut = s.dbOut := rfl
@[simp] theorem finishXfail_resetFlag (s : State) : (finishXfail s).resetFlag = s.resetFlag := rfl
@[simp] theorem finishXfail_rstPending (s : State) : (finishXfail s).rstPending = s.rstPending := rfl
@[simp] theorem finishXfail_lunValid (s : State) : (finishXfail s).lunValid = s.lunValid := rfl
@[simp] theorem finishXfail_phase (s : State) : (finishXfail s).phase = s.phase := rfl
@[simp] theorem finishXfail_seq (s : State) : (finishXfail s).seq = .disp1 := rfl
@[simp] theorem finishXfail_cdb (s : State) : (finishXfail s).cdb = s.cdb := rfl
@[simp] theorem finishXfail_buf (s : State) : (finishXfail s).buf = s.buf := rfl
@[simp] theorem finishXfail_n (s : State) : (finishXfail s).n = s.n := rfl
@[simp] theorem finishXfail_polls (s : State) : (finishXfail s).polls = s.polls := rfl
@[simp] theorem finishXfail_selByte (s : State) : (finishXfail s).selByte = s.selByte := rfl
@[simp] theorem finishXfail_curLun (s : State) : (finishXfail s).curLun = s.curLun := rfl
@[simp] theorem finishXfail_status (s : State) : (finishXfail s).status = s.cfg.statusCheckCondition := rfl
@[simp] theorem finishXfail_sense (s : State) : (finishXfail s).sense = s.sense.set s.curLun (.ofCode s.cfg.senseCodes.transportFailure) := rfl
@[simp] theorem finishXfail_cfg (s : State) : (finishXfail s).cfg = s.cfg := rfl
@[simp] theorem finishXfail_host (s : State) : (finishXfail s).host = s.host := rfl
@[simp] theorem finishXfail_answers (s : State) : (finishXfail s).answers = s.answers := rfl
@[simp] theorem finishXfail_sched (s : State) : (finishXfail s).sched = s.sched := rfl
@[simp] theorem finishXfail_draws (s : State) : (finishXfail s).draws = s.draws := rfl
@[simp] theorem finishXfail_calls (s : State) : (finishXfail s).calls = s.calls := rfl
@[simp] theorem finishXfail_diag (s : State) : (finishXfail s).diag = s.diag := rfl

/-! `finishStorage` -/

@[simp] theorem finishStorage_out (e : StoreErr) (s : State) : (finishStorage e s).out = s.out := rfl
@[simp] theorem finishStorage_dbDir (e : StoreErr) (s : State) : (finishStorage e s).dbDir = s.dbDir := rfl
@[simp] theorem finishStorage_dbOut (e : StoreErr) (s : State) : (finishStorage e s).dbOut = s.dbOut := rfl
@[simp] theorem finishStorage_resetFlag (e : StoreErr) (s : State) : (finishStorage e s).resetFlag = s.resetFlag := rfl
@[simp] theorem finishStorage_rstPending (e : StoreErr) (s : State) : (finishStorage e s).rstPending = s.rstPending := rfl
@[simp] theorem finishStorage_lunValid (e : StoreErr) (s : State) : (finishStorage e s).lunValid = s.lunValid := rfl
@[simp] theorem finishStorage_phase (e : StoreErr) (s : State) : (finishStorage e s).phase = s.phase := rfl
@[simp] theorem finishStorage_seq (e : StoreErr) (s : State) : (finishStorage e s).seq = .disp1 := rfl
@[simp] theorem finishStorage_cdb (e : StoreErr) (s : State) : (finishStorage e s).cdb = s.cdb := rfl
@[simp] theorem finishStorage_buf (e : StoreErr) (s : State) : (finishStorage e s).buf = s.buf := rfl
@[simp] theorem finishStorage_n (e : StoreErr) (s : State) : (finishStorage e s).n = s.n := rfl
@[simp] theorem finishStorage_polls (e : StoreErr) (s : State) : (finishStorage e s).polls = s.polls := rfl
@[simp] theorem finishStorage_selByte (e : StoreErr) (s : State) : (finishStorage e s).selByte = s.selByte := rfl
@[simp] theorem finishStorage_curLun (e : StoreErr) (s : State) : (finishStorage e s).curLun = s.curLun := rfl
@[simp] theorem finishStorage_status (e : StoreErr) (s : State) : (finishStorage e s).status = s.cfg.statusCheckCondition := rfl
@[simp] theorem finishStorage_sense (e : StoreErr) (s : State) : (finishStorage e s).sense = s.sense.set s.curLun (.ofCode (senseOf s.cfg.senseCodes e)) := rfl
@[simp] theorem finishStorage_cfg (e : StoreErr) (s : State) : (finishStorage e s).cfg = s.cfg := rfl
@[simp] theorem finishStorage_host (e : StoreErr) (s : State) : (finishStorage e s).host = s.host := rfl
@[simp] theorem finishStorage_answers (e : StoreErr) (s : State) : (finishStorage e s).answers = s.answers := rfl
@[simp] theorem finishStorage_sched (e : StoreErr) (s : State) : (finishStorage e s).sched = s.sched := rfl
@[simp] theorem finishStorage_draws (e : StoreErr) (s : State) : (finishStorage e s).draws = s.draws := rfl
@[simp] theorem finishStorage_calls (e : StoreErr) (s : State) : (finishStorage e s).calls = s.calls := rfl
@[simp] theorem finishStorage_diag (e : StoreErr) (s : State) : (finishStorage e s).diag = .error (.storageFailure e) :: s.diag := rfl

/-! `finishIllegal` -/

@[simp] theorem finishIllegal_out (s : State) : (finishIllegal s).out = s.out := rfl
@[simp] theorem finishIllegal_dbDir (s : State) : (finishIllegal s).dbDir = s.dbDir := rfl
@[simp] theorem finishIllegal_dbOut (s : State) : (finishIllegal s).dbOut = s.dbOut := rfl
@[simp] theorem finishIllegal_resetFlag (s : State) : (finishIllegal s).resetFlag = s.resetFlag := rfl
@[simp] theorem finishIllegal_rstPending (s : State) : (finishIllegal s).rstPending = s.rstPending := rfl
@[simp] theorem finishIllegal_lunValid (s : State) : (finishIllegal s).lunValid = s.lunValid := rfl
@[simp] theorem finishIllegal_phase (s : State) : (finishIllegal s).phase = s.phase := rfl
@[simp] theorem finishIllegal_seq (s : State) : (finishIllegal s).seq = .disp1 := rfl
@[simp] theorem finishIllegal_cdb (s : State) : (finishIllegal s).cdb = s.cdb := rfl
@[simp] theorem finishIllegal_buf (s : State) : (finishIllegal s).buf = s.buf := rfl
@[simp] theorem finishIllegal_n (s : State) : (finishIllegal s).n = s.n := rfl
@[simp] theorem finishIllegal_polls (s : State) : (finishIllegal s).polls = s.polls := rfl
@[simp] theorem finishIllegal_selByte (s : State) : (finishIllegal s).selByte = s.selByte := rfl
@[simp] theorem finishIllegal_curLun (s : State) : (finishIllegal s).curLun = s.curLun := rfl
@[simp] theorem finishIllegal_status (s : State) : (finishIllegal s).status = s.cfg.statusCheckCondition := rfl
@[simp] theorem finishIllegal_sense (s : State) : (finishIllegal s).sense = s.sense.set s.curLun (.ofCode s.cfg.senseCodes.invalidCommand) := rfl
@[simp] theorem finishIllegal_cfg (s : State) : (finishIllegal s).cfg = s.cfg := rfl
@[simp] theorem finishIllegal_host (s : State) : (finishIllegal s).host = s.host := rfl
@[simp] theorem finishIllegal_answers (s : State) : (finishIllegal s).answers = s.answers := rfl
@[simp] theorem finishIllegal_sched (s : State) : (finishIllegal s).sched = s.sched := rfl
@[simp] theorem finishIllegal_draws (s : State) : (finishIllegal s).draws = s.draws := rfl
@[simp] theorem finishIllegal_calls (s : State) : (finishIllegal s).calls = s.calls := rfl
@[simp] theorem finishIllegal_diag (s : State) : (finishIllegal s).diag = .error (.protocolFailure s.cfg.senseCodes.invalidCommand) :: s.diag := rfl

/-! `releaseOutputs` -/

@[simp] theorem releaseOutputs_out (s : State) : (releaseOutputs s).out = .released := rfl
@[simp] theorem releaseOutputs_dbDir (s : State) : (releaseOutputs s).dbDir = .input := rfl
@[simp] theorem releaseOutputs_dbOut (s : State) : (releaseOutputs s).dbOut = s.dbOut := rfl
@[simp] theorem releaseOutputs_resetFlag (s : State) : (releaseOutputs s).resetFlag = s.resetFlag := rfl
@[simp] theorem releaseOutputs_rstPending (s : State) : (releaseOutputs s).rstPending = s.rstPending := rfl
@[simp] theorem releaseOutputs_lunValid (s : State) : (releaseOutputs s).lunValid = s.lunValid := rfl
@[simp] theorem releaseOutputs_phase (s : State) : (releaseOutputs s).phase = s.phase := rfl
@[simp] theorem releaseOutputs_seq (s : State) : (releaseOutputs s).seq = s.seq := rfl
@[simp] theorem releaseOutputs_cdb (s : State) : (releaseOutputs s).cdb = s.cdb := rfl
@[simp] theorem releaseOutputs_buf (s : State) : (releaseOutputs s).buf = s.buf := rfl
@[simp] theorem releaseOutputs_n (s : State) : (releaseOutputs s).n = s.n := rfl
@[simp] theorem releaseOutputs_polls (s : State) : (releaseOutputs s).polls = s.polls := rfl
@[simp] theorem releaseOutputs_selByte (s : State) : (releaseOutputs s).selByte = s.selByte := rfl
@[simp] theorem releaseOutputs_curLun (s : State) : (releaseOutputs s).curLun = s.curLun := rfl
@[simp] theorem releaseOutputs_status (s : State) : (releaseOutputs s).status = s.status := rfl
@[simp] theorem releaseOutputs_sense (s : State) : (releaseOutputs s).sense = s.sense := rfl
@[simp] theorem releaseOutputs_cfg (s : State) : (releaseOutputs s).cfg = s.cfg := rfl
@[simp] theorem releaseOutputs_host (s : State) : (releaseOutputs s).host = s.host := rfl
@[simp] theorem releaseOutputs_answers (s : State) : (releaseOutputs s).answers = s.answers := rfl
@[simp] theorem releaseOutputs_sched (s : State) : (releaseOutputs s).sched = s.sched := rfl
@[simp] theorem releaseOutputs_draws (s : State) : (releaseOutputs s).draws = s.draws := rfl
@[simp] theorem releaseOutputs_calls (s : State) : (releaseOutputs s).calls = s.calls := rfl
@[simp] theorem releaseOutputs_diag (s : State) : (releaseOutputs s).diag = s.diag := rfl

/-! `busRelease` -/

@[simp] theorem busRelease_out (s : State) : (busRelease s).out = .released := rfl
@[simp] theorem busRelease_dbDir (s : State) : (busRelease s).dbDir = .input := rfl
@[simp] theorem busRelease_dbOut (s : State) : (busRelease s).dbOut = s.dbOut := rfl
@[simp] theorem busRelease_resetFlag (s : State) : (busRelease s).resetFlag = s.resetFlag := rfl
@[simp] theorem busRelease_rstPending (s : State) : (busRelease s).rstPending = s.rstPending := rfl
@[simp] theorem busRelease_lunValid (s : State) : (busRelease s).lunValid = false := rfl
@[simp] theorem busRelease_phase (s : State) : (busRelease s).phase = .busFree := rfl
@[simp] theorem busRelease_seq (s : State) : (busRelease s).seq = .bf1 := rfl
@[simp] theorem busRelease_cdb (s : State) : (busRelease s).cdb = s.cdb := rfl
@[simp] theorem busRelease_buf (s : State) : (busRelease s).buf = s.buf := rfl
@[simp] theorem busRelease_n (s : State) : (busRelease s).n = s.n := rfl
@[simp] theorem busRelease_polls (s : State) : (busRelease s).polls = s.polls := rfl
@[simp] theorem busRelease_selByte (s : State) : (busRelease s).selByte = s.selByte := rfl
@[simp] theorem busRelease_curLun (s : State) : (busRelease s).curLun = s.curLun := rfl
@[simp] theorem busRelease_status (s : State) : (busRelease s).status = s.status := rfl
@[simp] theorem busRelease_sense (s : State) : (busRelease s).sense = s.sense := rfl
@[simp] theorem busRelease_cfg (s : State) : (busRelease s).cfg = s.cfg := rfl
@[simp] theorem busRelease_host (s : State) : (busRelease s).host = s.host := rfl
@[simp] theorem busRelease_answers (s : State) : (busRelease s).answers = s.answers := rfl
@[simp] theorem busRelease_sched (s : State) : (busRelease s).sched = s.sched := rfl
@[simp] theorem busRelease_draws (s : State) : (busRelease s).draws = s.draws := rfl
@[simp] theorem busRelease_calls (s : State) : (busRelease s).calls = s.calls := rfl
@[simp] theorem busRelease_diag (s : State) : (busRelease s).diag = .phaseEntry .busFree :: s.diag := rfl

/-! `resetEntry` -/

@[simp] theorem resetEntry_out (s : State) : (resetEntry s).out = .released := rfl
@[simp] theorem resetEntry_dbDir (s : State) : (resetEntry s).dbDir = .input := rfl
@[simp] theorem resetEntry_dbOut (s : State) : (resetEntry s).dbOut = s.dbOut := rfl
@[simp] theorem resetEntry_resetFlag (s : State) : (resetEntry s).resetFlag = s.resetFlag := rfl
@[simp] theorem resetEntry_rstPending (s : State) : (resetEntry s).rstPending = s.rstPending := rfl
@[simp] theorem resetEntry_lunValid (s : State) : (resetEntry s).lunValid = false := rfl
@[simp] theorem resetEntry_phase (s : State) : (resetEntry s).phase = .busFree := rfl
@[simp] theorem resetEntry_seq (s : State) : (resetEntry s).seq = .rst3 := rfl
@[simp] theorem resetEntry_cdb (s : State) : (resetEntry s).cdb = s.cdb := rfl
@[simp] theorem resetEntry_buf (s : State) : (resetEntry s).buf = s.buf := rfl
@[simp] theorem resetEntry_n (s : State) : (resetEntry s).n = s.n := rfl
@[simp] theorem resetEntry_polls (s : State) : (resetEntry s).polls = s.polls := rfl
@[simp] theorem resetEntry_selByte (s : State) : (resetEntry s).selByte = s.selByte := rfl
@[simp] theorem resetEntry_curLun (s : State) : (resetEntry s).curLun = s.curLun := rfl
@[simp] theorem resetEntry_status (s : State) : (resetEntry s).status = s.status := rfl
@[simp] theorem resetEntry_sense (s : State) : (resetEntry s).sense = Vector.replicate 8 (.cleared s.cfg.senseCodes) := rfl
@[simp] theorem resetEntry_cfg (s : State) : (resetEntry s).cfg = s.cfg := rfl
@[simp] theorem resetEntry_host (s : State) : (resetEntry s).host = s.host := rfl
@[simp] theorem resetEntry_answers (s : State) : (resetEntry s).answers = s.answers := rfl
@[simp] theorem resetEntry_sched (s : State) : (resetEntry s).sched = s.sched := rfl
@[simp] theorem resetEntry_draws (s : State) : (resetEntry s).draws = s.draws := rfl
@[simp] theorem resetEntry_calls (s : State) : (resetEntry s).calls = s.calls := rfl
@[simp] theorem resetEntry_diag (s : State) : (resetEntry s).diag = .phaseEntry .busFree :: s.diag := rfl

/-! `gotoReset` -/

@[simp] theorem gotoReset_out (s : State) : (gotoReset s).out = s.out := rfl
@[simp] theorem gotoReset_dbDir (s : State) : (gotoReset s).dbDir = s.dbDir := rfl
@[simp] theorem gotoReset_dbOut (s : State) : (gotoReset s).dbOut = s.dbOut := rfl
@[simp] theorem gotoReset_resetFlag (s : State) : (gotoReset s).resetFlag = s.resetFlag := rfl
@[simp] theorem gotoReset_rstPending (s : State) : (gotoReset s).rstPending = s.rstPending := rfl
@[simp] theorem gotoReset_lunValid (s : State) : (gotoReset s).lunValid = s.lunValid := rfl
@[simp] theorem gotoReset_phase (s : State) : (gotoReset s).phase = s.phase := rfl
@[simp] theorem gotoReset_seq (s : State) : (gotoReset s).seq = .rst1 := rfl
@[simp] theorem gotoReset_cdb (s : State) : (gotoReset s).cdb = s.cdb := rfl
@[simp] theorem gotoReset_buf (s : State) : (gotoReset s).buf = s.buf := rfl
@[simp] theorem gotoReset_n (s : State) : (gotoReset s).n = s.n := rfl
@[simp] theorem gotoReset_polls (s : State) : (gotoReset s).polls = s.polls := rfl
@[simp] theorem gotoReset_selByte (s : State) : (gotoReset s).selByte = s.selByte := rfl
@[simp] theorem gotoReset_curLun (s : State) : (gotoReset s).curLun = s.curLun := rfl
@[simp] theorem gotoReset_status (s : State) : (gotoReset s).status = s.status := rfl
@[simp] theorem gotoReset_sense (s : State) : (gotoReset s).sense = s.sense := rfl
@[simp] theorem gotoReset_cfg (s : State) : (gotoReset s).cfg = s.cfg := rfl
@[simp] theorem gotoReset_host (s : State) : (gotoReset s).host = s.host := rfl
@[simp] theorem gotoReset_answers (s : State) : (gotoReset s).answers = s.answers := rfl
@[simp] theorem gotoReset_sched (s : State) : (gotoReset s).sched = s.sched := rfl
@[simp] theorem gotoReset_draws (s : State) : (gotoReset s).draws = s.draws := rfl
@[simp] theorem gotoReset_calls (s : State) : (gotoReset s).calls = s.calls := rfl
@[simp] theorem gotoReset_diag (s : State) : (gotoReset s).diag = s.diag := rfl

/-! `resetReturn` -/

@[simp] theorem resetReturn_out (s : State) : (resetReturn s).out = s.out := rfl
@[simp] theorem resetReturn_dbDir (s : State) : (resetReturn s).dbDir = s.dbDir := rfl
@[simp] theorem resetReturn_dbOut (s : State) : (resetReturn s).dbOut = s.dbOut := rfl
@[simp] theorem resetReturn_resetFlag (s : State) : (resetReturn s).resetFlag = false := rfl
@[simp] theorem resetReturn_rstPending (s : State) : (resetReturn s).rstPending = s.rstPending := rfl
@[simp] theorem resetReturn_lunValid (s : State) : (resetReturn s).lunValid = s.lunValid := rfl
@[simp] theorem resetReturn_phase (s : State) : (resetReturn s).phase = .busFree := rfl
@[simp] theorem resetReturn_seq (s : State) : (resetReturn s).seq = .bf1 := rfl
@[simp] theorem resetReturn_cdb (s : State) : (resetReturn s).cdb = s.cdb := rfl
@[simp] theorem resetReturn_buf (s : State) : (resetReturn s).buf = s.buf := rfl
@[simp] theorem resetReturn_n (s : State) : (resetReturn s).n = s.n := rfl
@[simp] theorem resetReturn_polls (s : State) : (resetReturn s).polls = s.polls := rfl
@[simp] theorem resetReturn_selByte (s : State) : (resetReturn s).selByte = s.selByte := rfl
@[simp] theorem resetReturn_curLun (s : State) : (resetReturn s).curLun = s.curLun := rfl
@[simp] theorem resetReturn_status (s : State) : (resetReturn s).status = s.status := rfl
@[simp] theorem resetReturn_sense (s : State) : (resetReturn s).sense = s.sense := rfl
@[simp] theorem resetReturn_cfg (s : State) : (resetReturn s).cfg = s.cfg := rfl
@[simp] theorem resetReturn_host (s : State) : (resetReturn s).host = s.host := rfl
@[simp] theorem resetReturn_answers (s : State) : (resetReturn s).answers = s.answers := rfl
@[simp] theorem resetReturn_sched (s : State) : (resetReturn s).sched = s.sched := rfl
@[simp] theorem resetReturn_draws (s : State) : (resetReturn s).draws = s.draws := rfl
@[simp] theorem resetReturn_calls (s : State) : (resetReturn s).calls = s.calls := rfl
@[simp] theorem resetReturn_diag (s : State) : (resetReturn s).diag = .phaseEntry .busFree :: s.diag := rfl

/-! `setReq` -/

@[simp] theorem setReq_out (a : Bool) (s : State) : (setReq a s).out = { s.out with req := a } := rfl
@[simp] theorem setReq_dbDir (a : Bool) (s : State) : (setReq a s).dbDir = s.dbDir := rfl
@[simp] theorem setReq_dbOut (a : Bool) (s : State) : (setReq a s).dbOut = s.dbOut := rfl
@[simp] theorem setReq_resetFlag (a : Bool) (s : State) : (setReq a s).resetFlag = s.resetFlag := rfl
@[simp] theorem setReq_rstPending (a : Bool) (s : State) : (setReq a s).rstPending = s.rstPending := rfl
@[simp] theorem setReq_lunValid (a : Bool) (s : State) : (setReq a s).lunValid = s.lunValid := rfl
@[simp] theorem setReq_phase (a : Bool) (s : State) : (setReq a s).phase = s.phase := rfl
@[simp] theorem setReq_seq (a : Bool) (s : State) : (setReq a s).seq = s.seq := rfl
@[simp] theorem setReq_cdb (a : Bool) (s : State) : (setReq a s).cdb = s.cdb := rfl
@[simp] theorem setReq_buf (a : Bool) (s : State) : (setReq a s).buf = s.buf := rfl
@[simp] theorem setReq_n (a : Bool) (s : State) : (setReq a s).n = s.n := rfl
@[simp] theorem setReq_polls (a : Bool) (s : State) : (setReq a s).polls = s.polls := rfl
@[simp] theorem setReq_selByte (a : Bool) (s : State) : (setReq a s).selByte = s.selByte := rfl
@[simp] theorem setReq_curLun (a : Bool) (s : State) : (setReq a s).curLun = s.curLun := rfl
@[simp] theorem setReq_status (a : Bool) (s : State) : (setReq a s).status = s.status := rfl
@[simp] theorem setReq_sense (a : Bool) (s : State) : (setReq a s).sense = s.sense := rfl
@[simp] theorem setReq_cfg (a : Bool) (s : State) : (setReq a s).cfg = s.cfg := rfl
@[simp] theorem setReq_host (a : Bool) (s : State) : (setReq a s).host = s.host := rfl
@[simp] theorem setReq_answers (a : Bool) (s : State) : (setReq a s).answers = s.answers := rfl
@[simp] theorem setReq_sched (a : Bool) (s : State) : (setReq a s).sched = s.sched := rfl
@[simp] theorem setReq_draws (a : Bool) (s : State) : (setReq a s).draws = s.draws := rfl
@[simp] theorem setReq_calls (a : Bool) (s : State) : (setReq a s).calls = s.calls := rfl
@[simp] theorem setReq_diag (a : Bool) (s : State) : (setReq a s).diag = s.diag := rfl

/-! `setBsy` -/

@[simp] theorem setBsy_out (a : Bool) (s : State) : (setBsy a s).out = { s.out with bsy := a } := rfl
@[simp] theorem setBsy_dbDir (a : Bool) (s : State) : (setBsy a s).dbDir = s.dbDir := rfl
@[simp] theorem setBsy_dbOut (a : Bool) (s : State) : (setBsy a s).dbOut = s.dbOut := rfl
@[simp] theorem setBsy_resetFlag (a : Bool) (s : State) : (setBsy a s).resetFlag = s.resetFlag := rfl
@[simp] theorem setBsy_rstPending (a : Bool) (s : State) : (setBsy a s).rstPending = s.rstPending := rfl
@[simp] theorem setBsy_lunValid (a : Bool) (s : State) : (setBsy a s).lunValid = s.lunValid := rfl
@[simp] theorem setBsy_phase (a : Bool) (s : State) : (setBsy a s).phase = s.phase := rfl
@[simp] theorem setBsy_seq (a : Bool) (s : State) : (setBsy a s).seq = s.seq := rfl
@[simp] theorem setBsy_cdb (a : Bool) (s : State) : (setBsy a s).cdb = s.cdb := rfl
@[simp] theorem setBsy_buf (a : Bool) (s : State) : (setBsy a s).buf = s.buf := rfl
@[simp] theorem setBsy_n (a : Bool) (s : State) : (setBsy a s).n = s.n := rfl
@[simp] theorem setBsy_polls (a : Bool) (s : State) : (setBsy a s).polls = s.polls := rfl
@[simp] theorem setBsy_selByte (a : Bool) (s : State) : (setBsy a s).selByte = s.selByte := rfl
@[simp] theorem setBsy_curLun (a : Bool) (s : State) : (setBsy a s).curLun = s.curLun := rfl
@[simp] theorem setBsy_status (a : Bool) (s : State) : (setBsy a s).status = s.status := rfl
@[simp] theorem setBsy_sense (a : Bool) (s : State) : (setBsy a s).sense = s.sense := rfl
@[simp] theorem setBsy_cfg (a : Bool) (s : State) : (setBsy a s).cfg = s.cfg := rfl
@[simp] theorem setBsy_host (a : Bool) (s : State) : (setBsy a s).host = s.host := rfl
@[simp] theorem setBsy_answers (a : Bool) (s : State) : (setBsy a s).answers = s.answers := rfl
@[simp] theorem setBsy_sched (a : Bool) (s : State) : (setBsy a s).sched = s.sched := rfl
@[simp] theorem setBsy_draws (a : Bool) (s : State) : (setBsy a s).draws = s.draws := rfl
@[simp] theorem setBsy_calls (a : Bool) (s : State) : (setBsy a s).calls = s.calls := rfl
@[simp] theorem setBsy_diag (a : Bool) (s : State) : (setBsy a s).diag = s.diag := rfl

/-! `writeDataBus` -/

@[simp] theorem writeDataBus_out (b : Byte) (s : State) : (writeDataBus b s).out = s.out := rfl
@[simp] theorem writeDataBus_dbDir (b : Byte) (s : State) : (writeDataBus b s).dbDir = s.dbDir := rfl
@[simp] theorem writeDataBus_dbOut (b : Byte) (s : State) : (writeDataBus b s).dbOut = b := rfl
@[simp] theorem writeDataBus_resetFlag (b : Byte) (s : State) : (writeDataBus b s).resetFlag = s.resetFlag := rfl
@[simp] theorem writeDataBus_rstPending (b : Byte) (s : State) : (writeDataBus b s).rstPending = s.rstPending := rfl
@[simp] theorem writeDataBus_lunValid (b : Byte) (s : State) : (writeDataBus b s).lunValid = s.lunValid := rfl
@[simp] theorem writeDataBus_phase (b : Byte) (s : State) : (writeDataBus b s).phase = s.phase := rfl
@[simp] theorem writeDataBus_seq (b : Byte) (s : State) : (writeDataBus b s).seq = s.seq := rfl
@[simp] theorem writeDataBus_cdb (b : Byte) (s : State) : (writeDataBus b s).cdb = s.cdb := rfl
@[simp] theorem writeDataBus_buf (b : Byte) (s : State) : (writeDataBus b s).buf = s.buf := rfl
@[simp] theorem writeDataBus_n (b : Byte) (s : State) : (writeDataBus b s).n = s.n := rfl
@[simp] theorem writeDataBus_polls (b : Byte) (s : State) : (writeDataBus b s).polls = s.polls := rfl
@[simp] theorem writeDataBus_selByte (b : Byte) (s : State) : (writeDataBus b s).selByte = s.selByte := rfl
@[simp] theorem writeDataBus_curLun (b : Byte) (s : State) : (writeDataBus b s).curLun = s.curLun := rfl
@[simp] theorem writeDataBus_status (b : Byte) (s : State) : (writeDataBus b s).status = s.status := rfl
@[simp] theorem writeDataBus_sense (b : Byte) (s : State) : (writeDataBus b s).sense = s.sense := rfl
@[simp] theorem writeDataBus_cfg (b : Byte) (s : State) : (writeDataBus b s).cfg = s.cfg := rfl
@[simp] theorem writeDataBus_host (b : Byte) (s : State) : (writeDataBus b s).host = s.host := rfl
@[simp] theorem writeDataBus_answers (b : Byte) (s : State) : (writeDataBus b s).answers = s.answers := rfl
@[simp] theorem writeDataBus_sched (b : Byte) (s : State) : (writeDataBus b s).sched = s.sched := rfl
@[simp] theorem writeDataBus_draws (b : Byte) (s : State) : (writeDataBus b s).draws = s.draws := rfl
@[simp] theorem writeDataBus_calls (b : Byte) (s : State) : (writeDataBus b s).calls = s.calls := rfl
@[simp] theorem writeDataBus_diag (b : Byte) (s : State) : (writeDataBus b s).diag = s.diag := rfl

/-! `setDataBusDirection` -/

@[simp] theorem setDataBusDirection_out (o : Bool) (s : State) : (setDataBusDirection o s).out = s.out := rfl
@[simp] theorem setDataBusDirection_dbDir (o : Bool) (s : State) : (setDataBusDirection o s).dbDir = if o then .output else .input := rfl
@[simp] theorem setDataBusDirection_dbOut (o : Bool) (s : State) : (setDataBusDirection o s).dbOut = s.dbOut := rfl
@[simp] theorem setDataBusDirection_resetFlag (o : Bool) (s : State) : (setDataBusDirection o s).resetFlag = s.resetFlag := rfl
@[simp] theorem setDataBusDirection_rstPending (o : Bool) (s : State) : (setDataBusDirection o s).rstPending = s.rstPending := rfl
@[simp] theorem setDataBusDirection_lunValid (o : Bool) (s : State) : (setDataBusDirection o s).lunValid = s.lunValid := rfl
@[simp] theorem setDataBusDirection_phase (o : Bool) (s : State) : (setDataBusDirection o s).phase = s.phase := rfl
@[simp] theorem setDataBusDirection_seq (o : Bool) (s : State) : (setDataBusDirection o s).seq = s.seq := rfl
@[simp] theorem setDataBusDirection_cdb (o : Bool) (s : State) : (setDataBusDirection o s).cdb = s.cdb := rfl
@[simp] theorem setDataBusDirection_buf (o : Bool) (s : State) : (setDataBusDirection o s).buf = s.buf := rfl
@[simp] theorem setDataBusDirection_n (o : Bool) (s : State) : (setDataBusDirection o s).n = s.n := rfl
@[simp] theorem setDataBusDirection_polls (o : Bool) (s : State) : (setDataBusDirection o s).polls = s.polls := rfl
@[simp] theorem setDataBusDirection_selByte (o : Bool) (s : State) : (setDataBusDirection o s).selByte = s.selByte := rfl
@[simp] theorem setDataBusDirection_curLun (o : Bool) (s : State) : (setDataBusDirection o s).curLun = s.curLun := rfl
@[simp] theorem setDataBusDirection_status (o : Bool) (s : State) : (setDataBusDirection o s).status = s.status := rfl
@[simp] theorem setDataBusDirection_sense (o : Bool) (s : State) : (setDataBusDirection o s).sense = s.sense := rfl
@[simp] theorem setDataBusDirection_cfg (o : Bool) (s : State) : (setDataBusDirection o s).cfg = s.cfg := rfl
@[simp] theorem setDataBusDirection_host (o : Bool) (s : State) : (setDataBusDirection o s).host = s.host := rfl
@[simp] theorem setDataBusDirection_answers (o : Bool) (s : State) : (setDataBusDirection o s).answers = s.answers := rfl
@[simp] theorem setDataBusDirection_sched (o : Bool) (s : State) : (setDataBusDirection o s).sched = s.sched := rfl
@[simp] theorem setDataBusDirection_draws (o : Bool) (s : State) : (setDataBusDirection o s).draws = s.draws := rfl
@[simp] theorem setDataBusDirection_calls (o : Bool) (s : State) : (setDataBusDirection o s).calls = s.calls := rfl
@[simp] theorem setDataBusDirection_diag (o : Bool) (s : State) : (setDataBusDirection o s).diag = s.diag := rfl

/-! `afterReadDataBus` -/

@[simp] theorem afterReadDataBus_out (s : State) : (afterReadDataBus s).out = s.out := rfl
@[simp] theorem afterReadDataBus_dbDir (s : State) : (afterReadDataBus s).dbDir = s.dbDir := rfl
@[simp] theorem afterReadDataBus_dbOut (s : State) : (afterReadDataBus s).dbOut = s.dbOut := rfl
@[simp] theorem afterReadDataBus_resetFlag (s : State) : (afterReadDataBus s).resetFlag = s.resetFlag := rfl
@[simp] theorem afterReadDataBus_rstPending (s : State) : (afterReadDataBus s).rstPending = s.rstPending := rfl
@[simp] theorem afterReadDataBus_lunValid (s : State) : (afterReadDataBus s).lunValid = s.lunValid := rfl
@[simp] theorem afterReadDataBus_phase (s : State) : (afterReadDataBus s).phase = s.phase := rfl
@[simp] theorem afterReadDataBus_seq (s : State) : (afterReadDataBus s).seq = s.seq := rfl
@[simp] theorem afterReadDataBus_cdb (s : State) : (afterReadDataBus s).cdb = s.cdb := rfl
@[simp] theorem afterReadDataBus_buf (s : State) : (afterReadDataBus s).buf = s.buf := rfl
@[simp] theorem afterReadDataBus_n (s : State) : (afterReadDataBus s).n = s.n := rfl
@[simp] theorem afterReadDataBus_polls (s : State) : (afterReadDataBus s).polls = s.polls := rfl
@[simp] theorem afterReadDataBus_selByte (s : State) : (afterReadDataBus s).selByte = s.selByte := rfl
@[simp] theorem afterReadDataBus_curLun (s : State) : (afterReadDataBus s).curLun = s.curLun := rfl
@[simp] theorem afterReadDataBus_status (s : State) : (afterReadDataBus s).status = s.status := rfl
@[simp] theorem afterReadDataBus_sense (s : State) : (afterReadDataBus s).sense = s.sense := rfl
@[simp] theorem afterReadDataBus_cfg (s : State) : (afterReadDataBus s).cfg = s.cfg := rfl
@[simp] theorem afterReadDataBus_host (s : State) : (afterReadDataBus s).host = s.host := rfl
@[simp] theorem afterReadDataBus_answers (s : State) : (afterReadDataBus s).answers = s.answers := rfl
@[simp] theorem afterReadDataBus_sched (s : State) : (afterReadDataBus s).sched = s.sched := rfl
@[simp] theorem afterReadDataBus_draws (s : State) : (afterReadDataBus s).draws = if s.dbDir = .input ∧ s.host.db = none then s.draws + 1 else s.draws := rfl
@[simp] theorem afterReadDataBus_calls (s : State) : (afterReadDataBus s).calls = s.calls := rfl
@[simp] theorem afterReadDataBus_diag (s : State) : (afterReadDataBus s).diag = s.diag := rfl

/-! `driveFlags` -/

@[simp] theorem driveFlags_out (f : PhaseFlags) (s : State) : (driveFlags f s).out = { s.out with msg := f.message, cd := f.commandNotData, io := f.inputNotOutput } := rfl
@[simp] theorem driveFlags_dbDir (f : PhaseFlags) (s : State) : (driveFlags f s).dbDir = dirOfIo f.inputNotOutput := rfl
@[simp] theorem driveFlags_dbOut (f : PhaseFlags) (s : State) : (driveFlags f s).dbOut = s.dbOut := rfl
@[simp] theorem driveFlags_resetFlag (f : PhaseFlags) (s : State) : (driveFlags f s).resetFlag = s.resetFlag := rfl
@[simp] theorem driveFlags_rstPending (f : PhaseFlags) (s : State) : (driveFlags f s).rstPending = s.rstPending := rfl
@[simp] theorem driveFlags_lunValid (f : PhaseFlags) (s : State) : (driveFlags f s).lunValid = s.lunValid := rfl
@[simp] theorem driveFlags_phase (f : PhaseFlags) (s : State) : (driveFlags f s).phase = s.phase := rfl
@[simp] theorem driveFlags_seq (f : PhaseFlags) (s : State) : (driveFlags f s).seq = s.seq := rfl
@[simp] theorem driveFlags_cdb (f : PhaseFlags) (s : State) : (driveFlags f s).cdb = s.cdb := rfl
@[simp] theorem driveFlags_buf (f : PhaseFlags) (s : State) : (driveFlags f s).buf = s.buf := rfl
@[simp] theorem driveFlags_n (f : PhaseFlags) (s : State) : (driveFlags f s).n = s.n := rfl
@[simp] theorem driveFlags_polls (f : PhaseFlags) (s : State) : (driveFlags f s).polls = s.polls := rfl
@[simp] theorem driveFlags_selByte (f : PhaseFlags) (s : State) : (driveFlags f s).selByte = s.selByte := rfl
@[simp] theorem driveFlags_curLun (f : PhaseFlags) (s : State) : (driveFlags f s).curLun = s.curLun := rfl
@[simp] theorem driveFlags_status (f : PhaseFlags) (s : State) : (driveFlags f s).status = s.status := rfl
@[simp] theorem driveFlags_sense (f : PhaseFlags) (s : State) : (driveFlags f s).sense = s.sense := rfl
@[simp] theorem driveFlags_cfg (f : PhaseFlags) (s : State) : (driveFlags f s).cfg = s.cfg := rfl
@[simp] theorem driveFlags_host (f : PhaseFlags) (s : State) : (driveFlags f s).host = s.host := rfl
@[simp] theorem driveFlags_answers (f : PhaseFlags) (s : State) : (driveFlags f s).answers = s.answers := rfl
@[simp] theorem driveFlags_sched (f : PhaseFlags) (s : State) : (driveFlags f s).sched = s.sched := rfl
@[simp] theorem driveFlags_draws (f : PhaseFlags) (s : State) : (driveFlags f s).draws = s.draws := rfl
@[simp] theorem driveFlags_calls (f : PhaseFlags) (s : State) : (driveFlags f s).calls = s.calls := rfl
@[simp] theorem driveFlags_diag (f : PhaseFlags) (s : State) : (driveFlags f s).diag = s.diag := rfl

/-! `decoded` -/

@[simp] theorem decoded_out (s : State) : (decoded s).out = s.out := rfl
@[simp] theorem decoded_dbDir (s : State) : (decoded s).dbDir = s.dbDir := rfl
@[simp] theorem decoded_dbOut (s : State) : (decoded s).dbOut = s.dbOut := rfl
@[simp] theorem decoded_resetFlag (s : State) : (decoded s).resetFlag = s.resetFlag := rfl
@[simp] theorem decoded_rstPending (s : State) : (decoded s).rstPending = s.rstPending := rfl
@[simp] theorem decoded_lunValid (s : State) : (decoded s).lunValid = s.lunValid := rfl
@[simp] theorem decoded_phase (s : State) : (decoded s).phase = s.phase := rfl
@[simp] theorem decoded_seq (s : State) : (decoded s).seq = s.seq := rfl
@[simp] theorem decoded_cdb (s : State) : (decoded s).cdb = s.cdb := rfl
@[simp] theorem decoded_buf (s : State) : (decoded s).buf = s.buf := rfl
@[simp] theorem decoded_n (s : State) : (decoded s).n = s.n := rfl
@[simp] theorem decoded_polls (s : State) : (decoded s).polls = s.polls := rfl
@[simp] theorem decoded_selByte (s : State) : (decoded s).selByte = s.selByte := rfl
@[simp] theorem decoded_curLun (s : State) : (decoded s).curLun = s.curLun := rfl
@[simp] theorem decoded_status (s : State) : (decoded s).status = s.status := rfl
@[simp] theorem decoded_sense (s : State) : (decoded s).sense = s.sense := rfl
@[simp] theorem decoded_cfg (s : State) : (decoded s).cfg = s.cfg := rfl
@[simp] theorem decoded_host (s : State) : (decoded s).host = s.host := rfl
@[simp] theorem decoded_answers (s : State) : (decoded s).answers = s.answers := rfl
@[simp] theorem decoded_sched (s : State) : (decoded s).sched = s.sched := rfl
@[simp] theorem decoded_draws (s : State) : (decoded s).draws = s.draws := rfl
@[simp] theorem decoded_calls (s : State) : (decoded s).calls = s.calls := rfl
@[simp] theorem decoded_diag (s : State) : (decoded s).diag = .commandDecoded s.cdb :: s.diag := rfl

/-! `popMove` -/

@[simp] theorem popMove_out (s : State) : (popMove s).out = s.out := rfl
@[simp] theorem popMove_dbDir (s : State) : (popMove s).dbDir = s.dbDir := rfl
@[simp] theorem popMove_dbOut (s : State) : (popMove s).dbOut = s.dbOut := rfl
@[simp] theorem popMove_resetFlag (s : State) : (popMove s).resetFlag = s.resetFlag := rfl
@[simp] theorem popMove_rstPending (s : State) : (popMove s).rstPending = s.rstPending := rfl
@[simp] theorem popMove_lunValid (s : State) : (popMove s).lunValid = s.lunValid := rfl
@[simp] theorem popMove_phase (s : State) : (popMove s).phase = s.phase := rfl
@[simp] theorem popMove_seq (s : State) : (popMove s).seq = s.seq := rfl
@[simp] theorem popMove_cdb (s : State) : (popMove s).cdb = s.cdb := rfl
@[simp] theorem popMove_buf (s : State) : (popMove s).buf = s.buf := rfl
@[simp] theorem popMove_n (s : State) : (popMove s).n = s.n := rfl
@[simp] theorem popMove_polls (s : State) : (popMove s).polls = s.polls := rfl
@[simp] theorem popMove_selByte (s : State) : (popMove s).selByte = s.selByte := rfl
@[simp] theorem popMove_curLun (s : State) : (popMove s).curLun = s.curLun := rfl
@[simp] theorem popMove_status (s : State) : (popMove s).status = s.status := rfl
@[simp] theorem popMove_sense (s : State) : (popMove s).sense = s.sense := rfl
@[simp] theorem popMove_cfg (s : State) : (popMove s).cfg = s.cfg := rfl
@[simp] theorem popMove_host (s : State) : (popMove s).host = s.host := rfl
@[simp] theorem popMove_answers (s : State) : (popMove s).answers = s.answers := rfl
@[simp] theorem popMove_sched (s : State) : (popMove s).sched = s.sched.tail := rfl
@[simp] theorem popMove_draws (s : State) : (popMove s).draws = s.draws := rfl
@[simp] theorem popMove_calls (s : State) : (popMove s).calls = s.calls := rfl
@[simp] theorem popMove_diag (s : State) : (popMove s).diag = s.diag := rfl

/-! `selectStart` -/

@[simp] theorem selectStart_out (s : State) : (selectStart s).out = { s.out with bsy := true } := rfl
@[simp] theorem selectStart_dbDir (s : State) : (selectStart s).dbDir = s.dbDir := rfl
@[simp] theorem selectStart_dbOut (s : State) : (selectStart s).dbOut = s.dbOut := rfl
@[simp] theorem selectStart_resetFlag (s : State) : (selectStart s).resetFlag = s.resetFlag := rfl
@[simp] theorem selectStart_rstPending (s : State) : (selectStart s).rstPending = s.rstPending := rfl
@[simp] theorem selectStart_lunValid (s : State) : (selectStart s).lunValid = true := rfl
@[simp] theorem selectStart_phase (s : State) : (selectStart s).phase = s.phase := rfl
@[simp] theorem selectStart_seq (s : State) : (selectStart s).seq = .sel2 := rfl
@[simp] theorem selectStart_cdb (s : State) : (selectStart s).cdb = s.cdb := rfl
@[simp] theorem selectStart_buf (s : State) : (selectStart s).buf = s.buf := rfl
@[simp] theorem selectStart_n (s : State) : (selectStart s).n = s.n := rfl
@[simp] theorem selectStart_polls (s : State) : (selectStart s).polls = s.polls := rfl
@[simp] theorem selectStart_selByte (s : State) : (selectStart s).selByte = s.selByte := rfl
@[simp] theorem selectStart_curLun (s : State) : (selectStart s).curLun = s.cfg.lunOf s.selByte := rfl
@[simp] theorem selectStart_status (s : State) : (selectStart s).status = s.status := rfl
@[simp] theorem selectStart_sense (s : State) : (selectStart s).sense = s.sense := rfl
@[simp] theorem selectStart_cfg (s : State) : (selectStart s).cfg = s.cfg := rfl
@[simp] theorem selectStart_host (s : State) : (selectStart s).host = s.host := rfl
@[simp] theorem selectStart_answers (s : State) : (selectStart s).answers = s.answers := rfl
@[simp] theorem selectStart_sched (s : State) : (selectStart s).sched = s.sched := rfl
@[simp] theorem selectStart_draws (s : State) : (selectStart s).draws = s.draws := rfl
@[simp] theorem selectStart_calls (s : State) : (selectStart s).calls = s.calls := rfl
@[simp] theorem selectStart_diag (s : State) : (selectStart s).diag = s.diag := rfl

/-! `selectValidate` -/

@[simp] theorem selectValidate_out (s : State) : (selectValidate s).out = s.out := rfl
@[simp] theorem selectValidate_dbDir (s : State) : (selectValidate s).dbDir = s.dbDir := rfl
@[simp] theorem selectValidate_dbOut (s : State) : (selectValidate s).dbOut = s.dbOut := rfl
@[simp] theorem selectValidate_resetFlag (s : State) : (selectValidate s).resetFlag = s.resetFlag := rfl
@[simp] theorem selectValidate_rstPending (s : State) : (selectValidate s).rstPending = s.rstPending := rfl
@[simp] theorem selectValidate_lunValid (s : State) : (selectValidate s).lunValid = s.lunValid := rfl
@[simp] theorem selectValidate_phase (s : State) : (selectValidate s).phase = s.phase := rfl
@[simp] theorem selectValidate_seq (s : State) : (selectValidate s).seq = .sel3 (nextAnswer s).flag := rfl
@[simp] theorem selectValidate_cdb (s : State) : (selectValidate s).cdb = s.cdb := rfl
@[simp] theorem selectValidate_buf (s : State) : (selectValidate s).buf = s.buf := rfl
@[simp] theorem selectValidate_n (s : State) : (selectValidate s).n = s.n := rfl
@[simp] theorem selectValidate_polls (s : State) : (selectValidate s).polls = s.polls := rfl
@[simp] theorem selectValidate_selByte (s : State) : (selectValidate s).selByte = s.selByte := rfl
@[simp] theorem selectValidate_curLun (s : State) : (selectValidate s).curLun = s.curLun := rfl
@[simp] theorem selectValidate_status (s : State) : (selectValidate s).status = s.status := rfl
@[simp] theorem selectValidate_sense (s : State) : (selectValidate s).sense = s.sense := rfl
@[simp] theorem selectValidate_cfg (s : State) : (selectValidate s).cfg = s.cfg := rfl
@[simp] theorem selectValidate_host (s : State) : (selectValidate s).host = s.host := rfl
@[simp] theorem selectValidate_answers (s : State) : (selectValidate s).answers = s.answers.tail := rfl
@[simp] theorem selectValidate_sched (s : State) : (selectValidate s).sched = s.sched := rfl
@[simp] theorem selectValidate_draws (s : State) : (selectValidate s).draws = if s.answers.isEmpty then s.draws + 1 else s.draws := rfl
@[simp] theorem selectValidate_calls (s : State) : (selectValidate s).calls = .lunExists s.curLun :: s.calls := rfl
@[simp] theorem selectValidate_diag (s : State) : (selectValidate s).diag = s.diag := rfl

/-! `lunNotPresent` -/

@[simp] theorem lunNotPresent_out (s : State) : (lunNotPresent s).out = s.out := rfl
@[simp] theorem lunNotPresent_dbDir (s : State) : (lunNotPresent s).dbDir = s.dbDir := rfl
@[simp] theorem lunNotPresent_dbOut (s : State) : (lunNotPresent s).dbOut = s.dbOut := rfl
@[simp] theorem lunNotPresent_resetFlag (s : State) : (lunNotPresent s).resetFlag = s.resetFlag := rfl
@[simp] theorem lunNotPresent_rstPending (s : State) : (lunNotPresent s).rstPending = s.rstPending := rfl
@[simp] theorem lunNotPresent_lunValid (s : State) : (lunNotPresent s).lunValid = s.lunValid := rfl
@[simp] theorem lunNotPresent_phase (s : State) : (lunNotPresent s).phase = .status := rfl
@[simp] theorem lunNotPresent_seq (s : State) : (lunNotPresent s).seq = .stat1 := rfl
@[simp] theorem lunNotPresent_cdb (s : State) : (lunNotPresent s).cdb = s.cdb := rfl
@[simp] theorem lunNotPresent_buf (s : State) : (lunNotPresent s).buf = s.buf := rfl
@[simp] theorem lunNotPresent_n (s : State) : (lunNotPresent s).n = s.n := rfl
@[simp] theorem lunNotPresent_polls (s : State) : (lunNotPresent s).polls = s.polls := rfl
@[simp] theorem lunNotPresent_selByte (s : State) : (lunNotPresent s).selByte = s.selByte := rfl
@[simp] theorem lunNotPresent_curLun (s : State) : (lunNotPresent s).curLun = s.curLun := rfl
@[simp] theorem lunNotPresent_status (s : State) : (lunNotPresent s).status = s.cfg.statusCheckCondition := rfl
@[simp] theorem lunNotPresent_sense (s : State) : (lunNotPresent s).sense = s.sense.set s.curLun (.ofCode s.cfg.senseCodes.lunNotSupported) := rfl
@[simp] theorem lunNotPresent_cfg (s : State) : (lunNotPresent s).cfg = s.cfg := rfl
@[simp] theorem lunNotPresent_host (s : State) : (lunNotPresent s).host = s.host := rfl
@[simp] theorem lunNotPresent_answers (s : State) : (lunNotPresent s).answers = s.answers := rfl
@[simp] theorem lunNotPresent_sched (s : State) : (lunNotPresent s).sched = s.sched := rfl
@[simp] theorem lunNotPresent_draws (s : State) : (lunNotPresent s).draws = s.draws := rfl
@[simp] theorem lunNotPresent_calls (s : State) : (lunNotPresent s).calls = s.calls := rfl
@[simp] theorem lunNotPresent_diag (s : State) : (lunNotPresent s).diag = .phaseEntry .status :: .error .lunNotSupported :: s.diag := rfl

end Sys2Proof.Machine
end

