-- ==== Sys2Proof/Laws/Handshake.lean ====
section
/-! SUPPORT. What a step of the handshake engine, of a block and of a data procedure can do: cited instead of
unfolding them. -/

namespace Sys2Proof.Machine

/-- What a step of the engine leaves alone: everything but `OUT.REQ`, `db_out`, `reset_flag`, `polls`, the draws and
the diagnostic record. -/
structure EngineFrame (s t : State) : Prop where
  bsy : t.out.bsy = s.out.bsy
  msg : t.out.msg = s.out.msg
  cd : t.out.cd = s.out.cd
  io : t.out.io = s.out.io
  dbDir : t.dbDir = s.dbDir
  rstPending : t.rstPending = s.rstPending
  lunValid : t.lunValid = s.lunValid
  phase : t.phase = s.phase
  seq : t.seq = s.seq
  cdb : t.cdb = s.cdb
  buf : t.buf = s.buf
  n : t.n = s.n
  selByte : t.selByte = s.selByte
  curLun : t.curLun = s.curLun
  status : t.status = s.status
  sense : t.sense = s.sense
  cfg : t.cfg = s.cfg
  host : t.host = s.host
  answers : t.answers = s.answers
  sched : t.sched = s.sched
  calls : t.calls = s.calls

theorem EngineFrame.rfl' (s : State) : EngineFrame s s := by constructor <;> rfl

/-- The state a step of the engine goes on with, if it does not stop. -/
def HsOut.state? (o : HsOut) : Option State :=
  match o with
  | .more _ t => some t
  | .done _ t => some t
  | .failed t => some t
  | .fault _ => none

/-- The engine's state after the step: `none` once the byte is done or failed. -/
def HsOut.next? (o : HsOut) : Option Hs :=
  match o with
  | .more h _ => some h
  | .done _ _ => none
  | .failed _ => none
  | .fault _ => none

theorem raiseReq_frame (bd : Bool) (s : State) : EngineFrame s (raiseReq bd s) := by
  cases bd <;> constructor <;> rfl

@[simp] theorem raiseReq_req (bd : Bool) (s : State) : (raiseReq bd s).out.req = true := by cases bd <;> rfl

@[simp] theorem raiseReq_resetFlag (bd : Bool) (s : State) : (raiseReq bd s).resetFlag = s.resetFlag := by
  cases bd <;> rfl

theorem setReq_frame (a : Bool) (s : State) : EngineFrame s (setReq a s) := by constructor <;> rfl

/-- The engine's frame, for every step that does not stop. -/
theorem hsStep_frame {dir : XferDir} {bd : Bool} {b : Byte} {h : Hs} {s t : State}
    (ht : (hsStep dir bd b h s).state? = some t) : EngineFrame s t := by
  cases h <;> cases dir <;>
    simp only [hsStep, startWrite, startRead, waitPoll, countPoll] at ht <;>
    (repeat' split at ht) <;>
    simp only [HsOut.state?, Option.some.injEq, reduceCtorEq] at ht <;>
    subst ht <;>
    first
      | exact raiseReq_frame _ _
      | exact setReq_frame _ _
      | (constructor <;> rfl)

/-- REQ after a step of the engine: as the engine's next state says, and de-asserted once the byte is over. -/
theorem hsStep_req {dir : XferDir} {bd : Bool} {b : Byte} {h : Hs} {s t : State}
    (hr : s.out.req = h.holdsReq) (ht : (hsStep dir bd b h s).state? = some t) :
    t.out.req = ((hsStep dir bd b h s).next?.map Hs.holdsReq).getD false := by
  revert ht
  cases h <;> cases dir <;>
    simp only [hsStep, startWrite, startRead, waitPoll, countPoll] <;>
    (repeat' split) <;>
    intro ht <;>
    simp only [HsOut.state?, Option.some.injEq, reduceCtorEq] at ht <;>
    subst ht <;>
    simp_all [HsOut.next?, Hs.holdsReq]

/-- A primitive entered as R152, R153 and R155 ask never stops. -/
theorem hsStep_ne_fault {dir : XferDir} {bd : Bool} {b : Byte} {h : Hs} {s : State}
    (hr : s.out.req = h.holdsReq) (hd : s.dbDir = busDirOf dir) (f : Fault) :
    hsStep dir bd b h s ≠ .fault f := by
  cases h <;> cases dir <;>
    simp only [hsStep, startWrite, startRead, waitPoll, countPoll] <;>
    (repeat' split) <;>
    simp_all [Hs.holdsReq, busDirOf]

/-- A finished byte of a block: the frame of R155's array write, and where the block goes on. -/
theorem byteDone_cases (dir : XferDir) (b : Byte) (s : State) :
    ∃ m, (m = s.buf ∨ m = s.buf.write s.n b) ∧
      ((s.n + 1 = blockSize ∧
          byteDone dir b s = .full (emit (.blockMoved dir (s.n + 1)) { s with buf := m, n := s.n + 1 })) ∨
        (s.n + 1 ≠ blockSize ∧ byteDone dir b s = .more (hsStart dir) { s with buf := m, n := s.n + 1 })) := by
  cases dir
  · refine ⟨s.buf, .inl rfl, ?_⟩
    by_cases h : s.n + 1 = blockSize
    · exact .inl ⟨h, by simp [byteDone, h]⟩
    · exact .inr ⟨h, by simp [byteDone, h]⟩
  · refine ⟨s.buf.write s.n b, .inr rfl, ?_⟩
    by_cases h : s.n + 1 = blockSize
    · exact .inl ⟨h, by simp [byteDone, h]⟩
    · exact .inr ⟨h, by simp [byteDone, h]⟩

@[simp] theorem hsStart_holdsReq (dir : XferDir) : (hsStart dir).holdsReq = false := by cases dir <;> rfl

end Sys2Proof.Machine
end

