-- ==== Sys2Proof/Laws/Ops.lean ====
section
/-! SUPPORT. For each shared operation of the handlers, everything it can do, written out once: cited instead of
unfolding it. -/

namespace Sys2Proof.Machine

theorem finishOk_eq (s : State) : finishOk s =
    { s with
      status := s.cfg.statusGood
      sense := s.sense.set s.curLun ⟨s.cfg.senseCodes.noSense, 0, 0, 0⟩
      seq := .disp1 } := rfl

theorem finishXfail_eq (s : State) : finishXfail s =
    { s with
      status := s.cfg.statusCheckCondition
      sense := s.sense.set s.curLun ⟨s.cfg.senseCodes.transportFailure, 0, 0, 0⟩
      seq := .disp1 } := rfl

theorem finishStorage_eq (e : StoreErr) (s : State) : finishStorage e s =
    { s with
      status := s.cfg.statusCheckCondition
      sense := s.sense.set s.curLun ⟨senseOf s.cfg.senseCodes e, 0, 0, 0⟩
      seq := .disp1
      diag := .error (.storageFailure e) :: s.diag } := rfl

/-- The readiness call: the two answers. -/
theorem readinessCall_eq (s : State) : readinessCall s =
    if (nextAnswer s).flag then finishOk (afterCall (.lunReady s.curLun) s)
    else finishStorage .notReady (afterCall (.lunReady s.curLun) s) := rfl

/-- `metaPut` and the return: the answers. -/
theorem metaPutCall_eq (kind : MetaKind) (bs : List Byte) (s : State) : metaPutCall kind bs s =
    match (nextAnswer s).err with
    | some e => finishStorage e (afterCall (.metaPut kind s.curLun s.cdb bs) s)
    | none => finishOk (afterCall (.metaPut kind s.curLun s.cdb bs) s) := rfl

/-- `metaGet` and the call of `dataInBytes`: an error, a string of which nothing is sent, a string to send. -/
theorem metaGetBytes_eq (kind : MetaKind) (cut : List Byte → List Byte) (s : State)
    (hl : (nextAnswer s).bytes.length ≤ 256) : metaGetBytes kind cut s =
    match (nextAnswer s).err with
    | some e => finishStorage e (afterCall (.metaGet kind s.curLun s.cdb) s)
    | none =>
      if cut (nextAnswer s).bytes = [] then finishOk (afterCall (.metaGet kind s.curLun s.cdb) s)
      else goto (.handler (.bytesIn (cut (nextAnswer s).bytes) .dp0)) (afterCall (.metaGet kind s.curLun s.cdb) s) := by
  unfold metaGetBytes metaGetResult
  cases h : (nextAnswer s).err <;> simp [startBytesIn, blockSize, List.take_of_length_le hl]

/-- VERIFY's call for one block. -/
theorem verifyBlock_eq (f : Fields) (k : Nat) (s : State) : verifyBlock f k s =
    match (nextAnswer s).err with
    | some e => finishStorage e (afterCall (.readSector s.curLun (blockAddr f k)) s)
    | none =>
      let u := { afterCall (.readSector s.curLun (blockAddr f k)) s with
        buf := if s.cfg.verifyFillsBuf then Memory.ofBytes 0 (nextAnswer s).block.toList else s.buf }
      if k + 1 < blockCount f then goto (.handler (.call (k + 1))) u else finishOk u := by
  unfold verifyBlock readSectorResult
  cases h : (nextAnswer s).err <;> simp
  by_cases hv : s.cfg.verifyFillsBuf = true <;> simp [hv, afterCall]

/-- READ6's fetch of one block. -/
theorem read6Fetch_eq (f : Fields) (k : Nat) (s : State) : read6Fetch f k s =
    match (nextAnswer s).err with
    | some e => finishStorage e (afterCall (.readSector s.curLun (blockAddr f k)) s)
    | none =>
      goto (.handler (.block .toHost k .dp0))
        { afterCall (.readSector s.curLun (blockAddr f k)) s with
          buf := Memory.ofBytes 0 (nextAnswer s).block.toList } := by
  unfold read6Fetch readSectorResult
  cases h : (nextAnswer s).err <;> simp

/-- `goto RESET`, written out. -/
theorem gotoReset_eq (s : State) : gotoReset s = { s with seq := .rst1 } := rfl

/-- A handler that returns at once, at `SQ_DISPATCH`: INQUIRY with nothing to send, or an unmatched opcode. -/
theorem exec_of_returnsAtOnce {i : Instr} {s : State} (hs : s.seq = .disp) (h : returnsAtOnce i s = true) :
    (∃ f, i = .inquiry f ∧ exec i s = .next (finishOk (decoded s))) ∨
      ∃ op f, i = .illegal op f ∧ exec i s = .next (finishIllegal (decoded s)) := by
  cases i <;> simp only [returnsAtOnce, Bool.false_eq_true] at h
  · exact .inl ⟨_, rfl, by simp [exec, execInquiry, hs, firstBytesIn, h]⟩
  · exact .inr ⟨_, _, rfl, by simp [exec, execIllegal, hs]⟩

/-- The step at `CMD3`: Reset handling, the return of a handler without steps, or `SQ_DISPATCH`. -/
theorem commandDone_cases (s : State) :
    (s.resetFlag = true ∧ commandDone s = .next (gotoReset s)) ∨
    (s.resetFlag = false ∧ returnsAtOnce (fetched s) s = true ∧ commandDone s = exec (fetched s) (goto .disp s)) ∨
    (s.resetFlag = false ∧ returnsAtOnce (fetched s) s = false ∧ commandDone s = .next (goto .disp s)) := by
  unfold commandDone
  cases s.resetFlag <;> cases hr : returnsAtOnce (fetched s) s <;> simp [dispatchStep]
  rfl

/-- The phase flags of a data procedure, outside a handshake. -/
theorem dataFlags_eq (dir : XferDir) (k : HandlerPos) (s : State) (h : s.out.req = false) :
    dataFlags dir k s = .next (goto (.handler k) (driveFlags (phaseFlags (phaseOfDir dir)) s)) := by
  simp [dataFlags, setDataPhaseFlags, h, andThen]

/-- A step of a block procedure that does not stop: the boundary, the flags, a step of the engine, a byte that
completes, a failure. -/
theorem blockPhase_cases {dir : XferDir} {k : Nat} {p : DataPos} {onFull : State → State} {s t : State}
    (h : blockPhase dir k p onFull s = .next t) :
    (p = .dp0 ∧ t = dataBoundary dir (.block dir k .dp1) s) ∨
    (p = .dp1 ∧ s.out.req = false ∧
      t = goto (.handler (.block dir k (.dp2 (hsStart dir))))
        (driveFlags (phaseFlags (phaseOfDir dir)) { s with n := 0 })) ∨
    ∃ q, p = .dp2 q ∧ s.n < blockSize ∧
      ((∃ q' u, hsStep dir true (s.buf.read s.n) q s = .more q' u ∧
          t = goto (.handler (.block dir k (.dp2 q'))) u) ∨
        (∃ b u q' v, hsStep dir true (s.buf.read s.n) q s = .done b u ∧ byteDone dir b u = .more q' v ∧
          t = goto (.handler (.block dir k (.dp2 q'))) v) ∨
        (∃ b u v, hsStep dir true (s.buf.read s.n) q s = .done b u ∧ byteDone dir b u = .full v ∧ t = onFull v) ∨
        ∃ u, hsStep dir true (s.buf.read s.n) q s = .failed u ∧ t = finishXfail (emit (.blockMoved dir u.n) u)) := by
  cases p with
  | dp0 => exact .inl ⟨rfl, by simpa [blockPhase, eq_comm] using h⟩
  | dp1 =>
    refine .inr (.inl ⟨rfl, ?_⟩)
    cases hr : s.out.req <;> simp [blockPhase, dataFlags, setDataPhaseFlags, hr, andThen] at h
    exact ⟨rfl, h.symm⟩
  | dp2 q =>
    refine .inr (.inr ⟨q, rfl, ?_⟩)
    by_cases hn : blockSize ≤ s.n
    · simp [blockPhase, blockMove, hn] at h
    refine ⟨by omega, ?_⟩
    simp only [blockPhase, blockMove, hn, if_false] at h
    cases hc : hsStep dir true (s.buf.read s.n) q s with
    | more q' u =>
      simp only [hc, Host.Outcome.next.injEq] at h
      exact .inl ⟨q', u, rfl, h.symm⟩
    | done b u =>
      cases hb : byteDone dir b u with
      | more q' v =>
        simp only [hc, hb, Host.Outcome.next.injEq] at h
        exact .inr (.inl ⟨b, u, q', v, rfl, hb, h.symm⟩)
      | full v =>
        simp only [hc, hb, Host.Outcome.next.injEq] at h
        exact .inr (.inr (.inl ⟨b, u, v, rfl, hb, h.symm⟩))
      | short v =>
        exfalso
        revert hb
        unfold byteDone
        cases dir <;> dsimp only <;> split <;> simp
      | fault f => simp [hc, hb] at h
    | failed u =>
      simp only [hc, Host.Outcome.next.injEq] at h
      exact .inr (.inr (.inr ⟨u, rfl, h.symm⟩))
    | fault f => simp [hc] at h

/-- A step of `dataInBytes` that does not stop. -/
theorem bytesInPhase_cases {rest : List Byte} {p : DataPos} {s t : State}
    (h : bytesInPhase rest p s = .next t) :
    (p = .dp0 ∧ t = dataBoundary .toHost (.bytesIn rest .dp1) s) ∨
    (p = .dp1 ∧ s.out.req = false ∧
      t = goto (.handler (.bytesIn rest (.dp2 .idle))) (driveFlags (phaseFlags .dataIn) s)) ∨
    ∃ q b bs, p = .dp2 q ∧ rest = b :: bs ∧
      ((∃ q' u, writeByteStep b q s = .more q' u ∧ t = goto (.handler (.bytesIn rest (.dp2 q'))) u) ∨
        (∃ c u, writeByteStep b q s = .done c u ∧
          t = if bs.isEmpty then finishOk u else goto (.handler (.bytesIn bs (.dp2 .idle))) u) ∨
        ∃ u, writeByteStep b q s = .failed u ∧ t = finishXfail u) := by
  cases p with
  | dp0 => exact .inl ⟨rfl, by simpa [bytesInPhase, eq_comm] using h⟩
  | dp1 =>
    refine .inr (.inl ⟨rfl, ?_⟩)
    cases hr : s.out.req <;> simp [bytesInPhase, dataFlags, setDataPhaseFlags, hr, andThen] at h
    exact ⟨rfl, h.symm⟩
  | dp2 q =>
    refine .inr (.inr ?_)
    cases rest with
    | nil => simp [bytesInPhase] at h
    | cons b bs =>
      refine ⟨q, b, bs, rfl, rfl, ?_⟩
      simp only [bytesInPhase] at h
      cases hc : writeByteStep b q s with
      | more q' u => simp only [hc, Host.Outcome.next.injEq] at h; exact .inl ⟨q', u, rfl, h.symm⟩
      | done c u => simp only [hc, Host.Outcome.next.injEq] at h; exact .inr (.inl ⟨c, u, rfl, h.symm⟩)
      | failed u => simp only [hc, Host.Outcome.next.injEq] at h; exact .inr (.inr ⟨u, rfl, h.symm⟩)
      | fault f => simp [hc] at h

/-- A step of `dataOutBytes` that does not stop. -/
theorem bytesOutPhase_cases {rest : Nat} {q : List Byte} {p : DataPos} {s t : State}
    (h : bytesOutPhase rest q p s = .next t) :
    (p = .dp0 ∧ t = dataBoundary .fromHost (.bytesOut rest q .dp1) s) ∨
    (p = .dp1 ∧ s.out.req = false ∧
      t = goto (.handler (.bytesOut rest q (.dp2 .req))) (driveFlags (phaseFlags .dataOut) s)) ∨
    ∃ w r, p = .dp2 w ∧ rest = r + 1 ∧
      ((∃ w' u, readByteStep w s = .more w' u ∧ t = goto (.handler (.bytesOut rest q (.dp2 w'))) u) ∨
        (∃ b u, readByteStep w s = .done b u ∧
          t = if r = 0 then goto (.handler (.put (q ++ [b]))) u
            else goto (.handler (.bytesOut r (q ++ [b]) (.dp2 .req))) u) ∨
        ∃ u, readByteStep w s = .failed u ∧ t = finishXfail u) := by
  cases p with
  | dp0 => exact .inl ⟨rfl, by simpa [bytesOutPhase, eq_comm] using h⟩
  | dp1 =>
    refine .inr (.inl ⟨rfl, ?_⟩)
    cases hr : s.out.req <;> simp [bytesOutPhase, dataFlags, setDataPhaseFlags, hr, andThen] at h
    exact ⟨rfl, h.symm⟩
  | dp2 w =>
    refine .inr (.inr ?_)
    cases rest with
    | zero => simp [bytesOutPhase] at h
    | succ r =>
      refine ⟨w, r, rfl, rfl, ?_⟩
      simp only [bytesOutPhase] at h
      cases hc : readByteStep w s with
      | more w' u => simp only [hc, Host.Outcome.next.injEq] at h; exact .inl ⟨w', u, rfl, h.symm⟩
      | done c u => simp only [hc, Host.Outcome.next.injEq] at h; exact .inr (.inl ⟨c, u, rfl, h.symm⟩)
      | failed u => simp only [hc, Host.Outcome.next.injEq] at h; exact .inr (.inr ⟨u, rfl, h.symm⟩)
      | fault f => simp [hc] at h

end Sys2Proof.Machine
end

