-- ==== Sys2Proof/Laws/PerInstr.lean ====
section
/-! SUPPORT. What holds of every command as syntax: a well-formed command has an opcode byte, it encodes to the CDB
assembled from that byte and its fields, and the fields can be read back from that CDB. One lemma per constructor. -/

namespace Sys2Proof.Laws

/-- A well-formed command encodes to its opcode byte and its fields, under every `OPC`. -/
def Encodes.Statement (i : Instr) : Prop :=
  ∀ o : Opc, i.wellFormed o = true →
    ∃ op, i.opcode o = some op ∧ encode o i = some (assemble op i.fields) ∧ (assemble op i.fields).fields = i.fields

theorem Encodes.testUnitReady (f : Fields) : Encodes.Statement (.testUnitReady f) :=
  fun _ _ => ⟨_, rfl, rfl, fields_assemble _ _⟩

theorem Encodes.rezeroUnit (f : Fields) : Encodes.Statement (.rezeroUnit f) :=
  fun _ _ => ⟨_, rfl, rfl, fields_assemble _ _⟩

theorem Encodes.requestSense (f : Fields) : Encodes.Statement (.requestSense f) :=
  fun _ _ => ⟨_, rfl, rfl, fields_assemble _ _⟩

theorem Encodes.format (f : Fields) : Encodes.Statement (.format f) :=
  fun _ _ => ⟨_, rfl, rfl, fields_assemble _ _⟩

theorem Encodes.read6 (f : Fields) : Encodes.Statement (.read6 f) :=
  fun _ _ => ⟨_, rfl, rfl, fields_assemble _ _⟩

theorem Encodes.write6 (f : Fields) : Encodes.Statement (.write6 f) :=
  fun _ _ => ⟨_, rfl, rfl, fields_assemble _ _⟩

theorem Encodes.seek (f : Fields) : Encodes.Statement (.seek f) :=
  fun _ _ => ⟨_, rfl, rfl, fields_assemble _ _⟩

theorem Encodes.translate (f : Fields) : Encodes.Statement (.translate f) :=
  fun _ _ => ⟨_, rfl, rfl, fields_assemble _ _⟩

theorem Encodes.inquiry (f : Fields) : Encodes.Statement (.inquiry f) :=
  fun _ _ => ⟨_, rfl, rfl, fields_assemble _ _⟩

theorem Encodes.modeSelect (f : Fields) : Encodes.Statement (.modeSelect f) :=
  fun _ _ => ⟨_, rfl, rfl, fields_assemble _ _⟩

theorem Encodes.modeSense (f : Fields) : Encodes.Statement (.modeSense f) :=
  fun _ _ => ⟨_, rfl, rfl, fields_assemble _ _⟩

theorem Encodes.startStop (f : Fields) : Encodes.Statement (.startStop f) :=
  fun _ _ => ⟨_, rfl, rfl, fields_assemble _ _⟩

theorem Encodes.verify (f : Fields) : Encodes.Statement (.verify f) :=
  fun _ _ => ⟨_, rfl, rfl, fields_assemble _ _⟩

theorem Encodes.select (f : Fields) : Encodes.Statement (.select f) := by
  intro o h
  obtain ⟨op, hop⟩ := Option.isSome_iff_exists.mp (show o.select.isSome = true from h)
  exact ⟨op, hop, by simp [encode, Instr.opcode, hop], fields_assemble _ _⟩

theorem Encodes.fcodeRead (f : Fields) : Encodes.Statement (.fcodeRead f) :=
  fun _ _ => ⟨_, rfl, rfl, fields_assemble _ _⟩

theorem Encodes.fcodeWrite (f : Fields) : Encodes.Statement (.fcodeWrite f) :=
  fun _ _ => ⟨_, rfl, rfl, fields_assemble _ _⟩

theorem Encodes.vSense (f : Fields) : Encodes.Statement (.vSense f) :=
  fun _ _ => ⟨_, rfl, rfl, fields_assemble _ _⟩

theorem Encodes.vSelect (f : Fields) : Encodes.Statement (.vSelect f) :=
  fun _ _ => ⟨_, rfl, rfl, fields_assemble _ _⟩

theorem Encodes.vPath (f : Fields) : Encodes.Statement (.vPath f) :=
  fun _ _ => ⟨_, rfl, rfl, fields_assemble _ _⟩

theorem Encodes.vInfo (f : Fields) : Encodes.Statement (.vInfo f) :=
  fun _ _ => ⟨_, rfl, rfl, fields_assemble _ _⟩

theorem Encodes.vRead (f : Fields) : Encodes.Statement (.vRead f) :=
  fun _ _ => ⟨_, rfl, rfl, fields_assemble _ _⟩

theorem Encodes.illegal (op : Byte) (f : Fields) : Encodes.Statement (.illegal op f) :=
  fun _ _ => ⟨_, rfl, rfl, fields_assemble _ _⟩

end Sys2Proof.Laws
end

