-- ==== Sys2Proof/Tests/Slice0.lean ====
section
/-! SUPPORT. The model's own tests: refused ill-formed terms, decoding of words written out from the spec's encodings,
single steps against the spec's worked examples, and for every obligation that has hypotheses a state that meets
them. -/

namespace Sys2Proof.Tests

open Sys2Proof Sys2Proof.Machine

/-! ### Well-formedness: what is refused -/

/-- The default opcodes with `OPC.SELECT` at a value of the writer's own (R240 gives none). -/
def opcSelect : Opc := { Opc.default with select := some 0x2B }

theorem test_wf_default : Opc.default.distinct ∧ opcSelect.distinct := by decide

theorem test_wf_select_without_opcode : (Instr.select ⟨0, 0, 0, 0⟩).wellFormed Opc.default = false := by decide

theorem test_wf_illegal_with_known_opcode : (Instr.illegal 0x08 ⟨0, 0, 0, 0⟩).wellFormed Opc.default = false := by
  decide

theorem test_wf_equal_opcodes : ¬ { Opc.default with seek := 0x08 }.distinct := by decide

theorem test_wf_select_equals_another : ¬ { Opc.default with select := some 0xD4 }.distinct := by decide

theorem test_wf_sense_no_sense_reused : ¬ { SenseCodes.default with ioError := 0x00 }.legal := by decide

theorem test_wf_sense_codes_equal : ¬ { SenseCodes.default with notFound := 0x04 }.legal := by decide

theorem test_wf_bound_zero : ¬ (Config.testVectors 0 []).wellFormed := fun h => absurd h.1 (by decide)

theorem test_wf_test_config : (Config.testVectors 3 []).wellFormed :=
  ⟨by decide, show Opc.default.distinct by decide, show SenseCodes.default.legal by decide⟩

/-! ### Decoding: the tables of R98 and R104, byte by byte -/

theorem test_decode_testUnitReady : decode Opc.default [0x00, 0xB5, 0x12, 0x34, 0x56, 0x78] =
    .ok (.testUnitReady ⟨5, 0x151234, 0x56, 0x78⟩) := by rfl

theorem test_decode_rezeroUnit : decode Opc.default [0x01, 0x1F, 0xFF, 0xFF, 0x00, 0x01] =
    .ok (.rezeroUnit ⟨0, 0x1FFFFF, 0x0, 0x1⟩) := by rfl

theorem test_decode_requestSense : decode Opc.default [0x03, 0xE0, 0x00, 0x01, 0xFF, 0x80] =
    .ok (.requestSense ⟨7, 0x1, 0xFF, 0x80⟩) := by rfl

theorem test_decode_format : decode Opc.default [0x04, 0x20, 0x80, 0x00, 0x04, 0x00] =
    .ok (.format ⟨1, 0x8000, 0x4, 0x0⟩) := by rfl

theorem test_decode_read6 : decode Opc.default [0x08, 0xB5, 0x12, 0x34, 0x56, 0x78] =
    .ok (.read6 ⟨5, 0x151234, 0x56, 0x78⟩) := by rfl

theorem test_decode_write6 : decode Opc.default [0x0A, 0x1F, 0xFF, 0xFF, 0x00, 0x01] =
    .ok (.write6 ⟨0, 0x1FFFFF, 0x0, 0x1⟩) := by rfl

theorem test_decode_seek : decode Opc.default [0x0B, 0xE0, 0x00, 0x01, 0xFF, 0x80] =
    .ok (.seek ⟨7, 0x1, 0xFF, 0x80⟩) := by rfl

theorem test_decode_translate : decode Opc.default [0x0F, 0x20, 0x80, 0x00, 0x04, 0x00] =
    .ok (.translate ⟨1, 0x8000, 0x4, 0x0⟩) := by rfl

theorem test_decode_inquiry : decode Opc.default [0x12, 0xB5, 0x12, 0x34, 0x56, 0x78] =
    .ok (.inquiry ⟨5, 0x151234, 0x56, 0x78⟩) := by rfl

theorem test_decode_modeSelect : decode Opc.default [0x15, 0x1F, 0xFF, 0xFF, 0x00, 0x01] =
    .ok (.modeSelect ⟨0, 0x1FFFFF, 0x0, 0x1⟩) := by rfl

theorem test_decode_modeSense : decode Opc.default [0x1A, 0xE0, 0x00, 0x01, 0xFF, 0x80] =
    .ok (.modeSense ⟨7, 0x1, 0xFF, 0x80⟩) := by rfl

theorem test_decode_startStop : decode Opc.default [0x1B, 0x20, 0x80, 0x00, 0x04, 0x00] =
    .ok (.startStop ⟨1, 0x8000, 0x4, 0x0⟩) := by rfl

theorem test_decode_verify : decode Opc.default [0x2F, 0xB5, 0x12, 0x34, 0x56, 0x78] =
    .ok (.verify ⟨5, 0x151234, 0x56, 0x78⟩) := by rfl

theorem test_decode_fcodeRead : decode Opc.default [0xC8, 0x1F, 0xFF, 0xFF, 0x00, 0x01] =
    .ok (.fcodeRead ⟨0, 0x1FFFFF, 0x0, 0x1⟩) := by rfl

theorem test_decode_fcodeWrite : decode Opc.default [0xCA, 0xE0, 0x00, 0x01, 0xFF, 0x80] =
    .ok (.fcodeWrite ⟨7, 0x1, 0xFF, 0x80⟩) := by rfl

theorem test_decode_vSense : decode Opc.default [0xD0, 0x20, 0x80, 0x00, 0x04, 0x00] =
    .ok (.vSense ⟨1, 0x8000, 0x4, 0x0⟩) := by rfl

theorem test_decode_vSelect : decode Opc.default [0xD1, 0xB5, 0x12, 0x34, 0x56, 0x78] =
    .ok (.vSelect ⟨5, 0x151234, 0x56, 0x78⟩) := by rfl

theorem test_decode_vPath : decode Opc.default [0xD2, 0x1F, 0xFF, 0xFF, 0x00, 0x01] =
    .ok (.vPath ⟨0, 0x1FFFFF, 0x0, 0x1⟩) := by rfl

theorem test_decode_vInfo : decode Opc.default [0xD3, 0xE0, 0x00, 0x01, 0xFF, 0x80] =
    .ok (.vInfo ⟨7, 0x1, 0xFF, 0x80⟩) := by rfl

theorem test_decode_vRead : decode Opc.default [0xD4, 0x20, 0x80, 0x00, 0x04, 0x00] =
    .ok (.vRead ⟨1, 0x8000, 0x4, 0x0⟩) := by rfl

theorem test_decode_select : decode opcSelect [0x2B, 0x41, 0x02, 0x03, 0x04, 0x05] =
    .ok (.select ⟨2, 0x010203, 4, 5⟩) := by rfl

theorem test_decode_select_absent : decode Opc.default [0x2B, 0x41, 0x02, 0x03, 0x04, 0x05] =
    .ok (.illegal 0x2B ⟨2, 0x010203, 4, 5⟩) := by rfl

theorem test_decode_illegal : decode Opc.default [0xFF, 0, 0, 0, 0, 0] = .ok (.illegal 0xFF ⟨0, 0, 0, 0⟩) := by rfl

theorem test_decode_too_few : decode Opc.default [0x08, 0, 0, 0, 1] = .error (.tooFewBytes 5) := by rfl

theorem test_decode_too_many : decode Opc.default [0x08, 0, 0, 0, 1, 0, 0] = .error (.tooManyBytes 7) := by rfl

theorem test_decode_table_word : decodeTableWord 48 0xD1B512345678 = some (.vSelect ⟨5, 0x151234, 0x56, 0x78⟩) := by
  rfl

/-- R115's example: `READ6 0, 1` assembles to `[0x08, 0x00, 0x00, 0x00, 0x01, 0x00]`. -/
theorem test_assemble_read6 :
    (encode Opc.default (pseudoRead6 0 1)).map Cdb.toList = some [0x08, 0, 0, 0, 1, 0] := by rfl

/-- R115: two operands, `n` in 1..256, `n mod 256`. -/
theorem test_assemble_256_blocks :
    (encode Opc.default (pseudoVerify 0x1FFFFF 256)).map Cdb.toList = some [0x2F, 0x1F, 0xFF, 0xFF, 0, 0] := by rfl

/-! ### Single steps -/

/-- A host that has sent `c`, with a LUN 3 selected, a poll bound of 3 and these answers of STORE; the record of LUN
3 holds a code. -/
def start (c : Cdb) (as : List Answer) : State :=
  { State.reset with
    cfg := Config.testVectors 3 [0x11, 0x22, 0x33, 0x44]
    cdb := c
    answers := as
    curLun := 3
    lunValid := true
    sense := Vector.replicate 8 ⟨0x55, 0, 0, 0⟩ }

/-- The same, with SEQ at `q` of phase `p`, its lines driven and REQ as `r` says. -/
def stand (q : Seq) (p : Phase) (r : Bool) (c : Cdb) (as : List Answer) : State :=
  { start c as with
    seq := q
    phase := p
    out := ⟨true, r, (phaseFlags p).message, (phaseFlags p).commandNotData, (phaseFlags p).inputNotOutput⟩
    dbDir := dirOfIo (phaseFlags p).inputNotOutput }

/-- At `SQ_DISPATCH`. -/
def atDisp (c : Cdb) (as : List Answer) : State := stand .disp .command false c as

/-- An answer that succeeds: a block of 0xE5 and the string 0x41, 0x42, 0x0D. -/
def good : Answer := ⟨true, none, Vector.replicate 256 0xE5, [0x41, 0x42, 0x0D], 4⟩

/-- An answer that fails. -/
def bad (e : StoreErr) : Answer := ⟨false, some e, Vector.replicate 256 0, [], 4⟩

/-- The next state of an outcome. -/
def nextOf (o : Outcome) : Option State :=
  match o with
  | .next s => some s
  | .fault _ => none
  | .refused _ => none

/-- Where SEQ stands, the status byte and the record of LUN 3 after one step of the command in `cdb`. -/
def result (s : State) : Option (Seq × Byte × SenseRec) :=
  (nextOf (exec (fetched s) s)).map fun t => (t.seq, t.status, t.sense[3])

/-- Where SEQ stands and the calls STORE has seen after one step of the command in `cdb`. -/
def called (s : State) : Option (Seq × List StoreCall) :=
  (nextOf (exec (fetched s) s)).map fun t => (t.seq, t.calls)

/-- Where SEQ stands, the phase and the lines after one step of the command in `cdb`. -/
def lines (s : State) : Option (Seq × Phase × OutLines × BusDir) :=
  (nextOf (exec (fetched s) s)).map fun t => (t.seq, t.phase, t.out, t.dbDir)

theorem test_testUnitReady_ready : result (atDisp ⟨0, 0, 0, 0, 0, 0⟩ [good]) = some (.disp1, 0x00, ⟨0, 0, 0, 0⟩) := by
  rfl

theorem test_testUnitReady_not_ready : result (atDisp ⟨0, 0, 0, 0, 0, 0⟩ [bad .ioError]) = some (.disp1, 0x02, ⟨0x04, 0, 0, 0⟩) := by
  rfl

theorem test_rezeroUnit_not_ready : result (atDisp ⟨1, 0, 0, 0, 0, 0⟩ [bad .notFound]) = some (.disp1, 0x02, ⟨0x04, 0, 0, 0⟩) := by
  rfl

theorem test_seek_ready : result (atDisp ⟨0x0B, 0, 0x10, 0, 0, 0⟩ [good]) = some (.disp1, 0x00, ⟨0, 0, 0, 0⟩) := by
  rfl

theorem test_seek_call : called (atDisp ⟨0x0B, 0, 0x10, 0, 0, 0⟩ [good]) = some (.disp1, [.lunReady 3]) := by
  rfl

theorem test_format_ok : called (atDisp ⟨4, 0, 0, 0, 0, 0⟩ [good]) =
    some (.disp1, [.metaPut .format 3 ⟨4, 0, 0, 0, 0, 0⟩ []]) := by
  rfl

theorem test_format_not_found : result (atDisp ⟨4, 0, 0, 0, 0, 0⟩ [bad .notFound]) = some (.disp1, 0x02, ⟨0x21, 0, 0, 0⟩) := by
  rfl

theorem test_startStop_call : called (atDisp ⟨0x1B, 0, 0, 0, 1, 0⟩ [good]) =
    some (.disp1, [.metaPut .startStop 3 ⟨0x1B, 0, 0, 0, 1, 0⟩ []]) := by
  rfl

theorem test_select_call : (nextOf (exec (.select ⟨0, 0, 0, 0⟩) (atDisp ⟨0x2B, 0, 0, 0, 0, 0⟩ [good]))).map (fun t => t.calls) =
    some [.metaPut .select 3 ⟨0x2B, 0, 0, 0, 0, 0⟩ []] := by
  rfl

theorem test_verify_first_of_two : called (atDisp ⟨0x2F, 0, 0, 0, 2, 0⟩ [good]) = some (.handler (.call 1), [.readSector 3 0]) := by
  rfl

theorem test_verify_last : called (stand (.handler (.call 1)) .command false ⟨0x2F, 0, 0, 0, 2, 0⟩ [good]) =
    some (.disp1, [.readSector 3 1]) := by
  rfl

theorem test_illegal : result (atDisp ⟨0xFF, 0, 0, 0, 0, 0⟩ []) = some (.disp1, 0x02, ⟨0x20, 0, 0, 0⟩) := by
  rfl

theorem test_illegal_no_call : called (atDisp ⟨0xFF, 0, 0, 0, 0, 0⟩ [good]) = some (.disp1, []) := by
  rfl

theorem test_read6_fetch : called (atDisp ⟨8, 0x1F, 0xFF, 0xFF, 1, 0⟩ [good]) =
    some (.handler (.block .toHost 0 .dp0), [.readSector 3 0x1FFFFF]) := by
  rfl

theorem test_read6_past_the_end : called (stand (.handler (.call 1)) .dataIn false ⟨8, 0x1F, 0xFF, 0xFF, 2, 0⟩ [bad .notFound]) =
    some (.disp1, [.readSector 3 0x200000]) := by
  rfl

theorem test_write6_asks_first : lines (atDisp ⟨0x0A, 0, 0, 5, 1, 0⟩ []) =
    some (.handler (.block .fromHost 0 .dp1), .dataOut, ⟨true, false, false, true, false⟩, .input) := by
  rfl

theorem test_write6_error : result (stand (.handler (.call 0)) .dataOut false ⟨0x0A, 0, 0, 5, 1, 0⟩ [bad .ioError]) =
    some (.disp1, 0x02, ⟨0x11, 0, 0, 0⟩) := by
  rfl

theorem test_requestSense_sends_record : called (atDisp ⟨3, 0, 0, 0, 4, 0⟩ []) = some (.handler (.bytesIn [0x55, 0, 0, 0] .dp1), []) := by
  rfl

theorem test_requestSense_cleared_at_the_end : result (stand (.handler (.bytesIn [0] (.dp2 .release))) .dataIn true ⟨3, 0, 0, 0, 4, 0⟩ []) =
    some (.disp1, 0x00, ⟨0, 0, 0, 0⟩) := by
  rfl

theorem test_inquiry_cut : called (atDisp ⟨0x12, 0, 0, 0, 2, 0⟩ []) = some (.handler (.bytesIn [0x11, 0x22] .dp1), []) := by
  rfl

theorem test_inquiry_nothing_to_send : result (atDisp ⟨0x12, 0, 0, 0, 0, 0⟩ []) = some (.disp1, 0x00, ⟨0, 0, 0, 0⟩) := by
  rfl

theorem test_translate_whole_string : called (atDisp ⟨0x0F, 0, 0, 0, 1, 0⟩ [good]) =
    some (.handler (.bytesIn [0x41, 0x42, 0x0D] .dp0), [.metaGet .translate 3 ⟨0x0F, 0, 0, 0, 1, 0⟩]) := by
  rfl

theorem test_modeSense_cut : called (atDisp ⟨0x1A, 0, 0, 0, 2, 0⟩ [good]) =
    some (.handler (.bytesIn [0x41, 0x42] .dp0), [.metaGet .modeParams 3 ⟨0x1A, 0, 0, 0, 2, 0⟩]) := by
  rfl

theorem test_modeSelect_empty : called (atDisp ⟨0x15, 0, 0, 0, 0, 0⟩ [good]) =
    some (.disp1, [.metaPut .modeParams 3 ⟨0x15, 0, 0, 0, 0, 0⟩ []]) := by
  rfl

theorem test_modeSelect_put : called (stand (.handler (.put [1, 2, 3])) .dataOut false ⟨0x15, 0, 0, 0, 3, 0⟩ [good]) =
    some (.disp1, [.metaPut .modeParams 3 ⟨0x15, 0, 0, 0, 3, 0⟩ [1, 2, 3]]) := by
  rfl

theorem test_fcodeRead_fills_buf : (nextOf (exec (.fcodeRead ⟨0, 0, 0, 0⟩) (atDisp ⟨0xC8, 0, 0, 0, 0, 0⟩ [good]))).map
    (fun t => t.buf.take 3) = some [(0, 0x41), (1, 0x42), (2, 0x0D)] := by
  rfl

theorem test_fcodeWrite_not_ready : result (stand (.handler (.call 0)) .dataOut false ⟨0xCA, 0, 0, 0, 0, 0⟩ [bad .notReady]) =
    some (.disp1, 0x02, ⟨0x04, 0, 0, 0⟩) := by
  rfl

theorem test_vSense_call : called (atDisp ⟨0xD0, 0, 0, 0, 0, 0⟩ [good]) =
    some (.handler (.block .toHost 0 .dp0), [.metaGet .vSense 3 ⟨0xD0, 0, 0, 0, 0, 0⟩]) := by
  rfl

theorem test_vInfo_call : called (atDisp ⟨0xD3, 0, 0, 0, 0, 0⟩ [good]) =
    some (.handler (.block .toHost 0 .dp0), [.metaGet .vInfo 3 ⟨0xD3, 0, 0, 0, 0, 0⟩]) := by
  rfl

theorem test_vRead_call : called (atDisp ⟨0xD4, 0, 0, 0, 0, 0⟩ [good]) =
    some (.handler (.block .toHost 0 .dp0), [.metaGet .vRead 3 ⟨0xD4, 0, 0, 0, 0, 0⟩]) := by
  rfl

theorem test_vSelect_asks : lines (atDisp ⟨0xD1, 0, 0, 0, 0, 0⟩ []) =
    some (.handler (.block .fromHost 0 .dp1), .dataOut, ⟨true, false, false, true, false⟩, .input) := by
  rfl

theorem test_vPath_asks : lines (atDisp ⟨0xD2, 0, 0, 0, 0, 0⟩ []) =
    some (.handler (.block .fromHost 0 .dp1), .dataOut, ⟨true, false, false, true, false⟩, .input) := by
  rfl

theorem test_lines_dataIn : lines (stand (.handler (.block .toHost 0 .dp1)) .command false ⟨8, 0, 0, 0, 1, 0⟩ []) =
    some (.handler (.block .toHost 0 (.dp2 .idle)), .command, ⟨true, false, false, false, true⟩, .output) := by
  rfl

/-! ### States that meet the obligations' hypotheses -/

/-- The invariant of a state built by `stand`. -/
theorem stand_inv {q : Seq} {p : Phase} {r : Bool} {c : Cdb} {as : List Answer}
    (hr : r = q.holdsReq) (hb : q.holdsBus = some true) (hp : p ∈ q.phases) (hn : p ≠ .busFree)
    (hx : ∀ d h, q.engine = some (d, h) → dirOfIo (phaseFlags p).inputNotOutput = busDirOf d)
    (hk : ∀ k, q = .handler k → handlerMayStandAt (decodeCdb Opc.default c) k = true)
    (hs : ∀ b w, q = .handler (.bytesIn b w) → b ≠ [])
    (ho : ∀ n b w, q = .handler (.bytesOut n b w) → n ≠ 0) (hd : q ≠ .disp := by simp) : (stand q p r c as).Inv := by
  refine ⟨⟨(by decide : Memory.wf []), by simp [stand, start, State.reset]⟩, rfl, hr, ?_, ?_, fun _ => rfl,
    hp, fun _ => rfl, hx, hk, ?_, fun h => absurd h hd, hs, ho⟩
  · intro b h
    have : some b = some true := h.symm.trans hb
    simpa [stand] using this.symm
  · exact fun h => absurd h hn
  · intro d k h _
    show 0 < blockSize
    decide

/-- READ6 and WRITE6, one block; VERIFY, two; INQUIRY; MODE SELECT, three bytes. -/
def cRead : Cdb := ⟨8, 0, 0, 0, 1, 0⟩
def cWrite : Cdb := ⟨0x0A, 0, 0, 5, 1, 0⟩
def cVerify : Cdb := ⟨0x2F, 0, 0, 0, 2, 0⟩
def cInquiry : Cdb := ⟨0x12, 0, 0, 0, 3, 0⟩
def cSelect : Cdb := ⟨0x15, 0, 0, 0, 3, 0⟩

/-- READ6 and WRITE6 in a block at engine state `h`. -/
def inRead (h : Hs) : State := stand (.handler (.block .toHost 0 (.dp2 h))) .dataIn h.holdsReq cRead []
def inWrite (h : Hs) : State := stand (.handler (.block .fromHost 0 (.dp2 h))) .dataOut h.holdsReq cWrite []

theorem inRead_inv (h : Hs) : (inRead h).Inv :=
  stand_inv rfl rfl (List.mem_singleton.mpr rfl) (by decide) (by intro d g e; cases e; rfl) (by intro k e; cases e; rfl)
    (by simp) (by simp)

theorem inWrite_inv (h : Hs) : (inWrite h).Inv :=
  stand_inv rfl rfl (List.mem_singleton.mpr rfl) (by decide) (by intro d g e; cases e; rfl) (by intro k e; cases e; rfl)
    (by simp) (by simp)

/-- READ6 and WRITE6 at the boundary of their block. -/
def atRead : State := stand (.handler (.block .toHost 0 .dp0)) .command false cRead []
def atWrite : State := stand (.handler (.block .fromHost 0 .dp0)) .command false cWrite []

theorem atRead_inv : atRead.Inv :=
  stand_inv rfl rfl (by decide) (by decide) (by intro d g e; cases e) (by intro k e; cases e; rfl) (by simp) (by simp)

theorem atWrite_inv : atWrite.Inv :=
  stand_inv rfl rfl (by decide) (by decide) (by intro d g e; cases e) (by intro k e; cases e; rfl) (by simp) (by simp)

/-- A byte of the Command phase, of Status and of an INQUIRY string waits for ACK. -/
def inCdb : State := stand (.cmd2 5 .wait) .command true cRead []
def inStatus : State := stand (.stat2 .wait) .status true cRead []
def inString : State := stand (.handler (.bytesIn [1] (.dp2 .wait))) .dataIn true cInquiry []

theorem inCdb_inv : inCdb.Inv :=
  stand_inv rfl rfl (by decide) (by decide) (by intro d g e; cases e; rfl) (by simp) (by simp) (by simp)

theorem inStatus_inv : inStatus.Inv :=
  stand_inv rfl rfl (by decide) (by decide) (by intro d g e; cases e; rfl) (by simp) (by simp) (by simp)

theorem inString_inv : inString.Inv :=
  stand_inv rfl rfl (by decide) (by decide) (by intro d g e; cases e; rfl) (by intro k e; cases e; rfl)
    (by intro b w e; cases e; simp) (by simp)

theorem witness_DecodeOfEncode : opcSelect.distinct ∧ (Instr.select ⟨7, 0x1FFFFF, 255, 255⟩).wellFormed opcSelect = true ∧
    (Instr.illegal 0xFF ⟨0, 0, 0, 0⟩).wellFormed opcSelect = true ∧
    (Instr.read6 ⟨0, 0, 1, 0⟩).wellFormed opcSelect = true := by decide

theorem witness_UnmatchedOpcodes : (0xFF : Byte) ∉ Opc.default.values ∧ (0xD5 : Byte) ∉ Opc.default.values ∧
    (0xD4 : Byte) ∈ Opc.default.values ∧ (0x00 : Byte) ∈ Opc.default.values := by decide

theorem witness_BlockAddresses : 255 < blockCount ⟨0, 0x1FFFFF, 0, 0⟩ ∧ 0 < blockCount ⟨0, 0, 1, 0⟩ ∧
    254 < blockCount ⟨0, 0x1FFFFF, 255, 0⟩ := by decide

theorem witness_InversionLaw :
    setLine .req true (inRead .drive) = .next (inRead .drive |> setReq true) ∧ (inRead .drive).host.db = none ∧
      (let s := { inWrite .wait with host := ⟨false, false, false, false, some 0xFF⟩ }
       s.dbDir = .input ∧ (pins s).dbN = .driven 0x00) := ⟨rfl, rfl, rfl, rfl⟩

theorem witness_PhaseFlagsAtomic : atRead.out.req = false := rfl

theorem witness_ByteHandshakeSteps :
    ((inWrite .req).dbDir = .input ∧ (inWrite .req).out.req = false) ∧
    (let s := { inWrite .sample with host := ⟨false, false, true, false, some 8⟩ }
     s.dbDir = .input ∧ s.host.db = some 8) ∧
    (inRead .idle).dbDir = .output ∧ (inRead .idle).out.req = false := ⟨⟨rfl, rfl⟩, ⟨rfl, rfl⟩, rfl, rfl⟩

theorem witness_TransferBlockSteps :
    (inRead .idle).n < 256 ∧ (inRead .idle).dbDir = .output ∧ (inRead .idle).out.req = false ∧
    (let s := { inWrite .req with n := 255 }
     s.n < 256 ∧ s.dbDir = .input ∧ s.out.req = false) ∧
    (let s := { inWrite .sample with n := 255, host := ⟨false, false, true, false, some 8⟩ }
     s.n < 256 ∧ s.dbDir = .input ∧ s.host.db = some 8) := by
  refine ⟨?_, rfl, rfl, ⟨?_, rfl, rfl⟩, ?_, rfl, rfl⟩ <;> decide

theorem witness_StalledHostTimesOut :
    ((inRead .idle).Inv ∧ 1 ≤ (inRead .idle).cfg.ackPollBound ∧
      (inRead .idle).seq = .handler (.block .toHost 0 (.dp2 (hsStart .toHost))) ∧
      (inRead .idle).resetFlag = false ∧ (inRead .idle).host.ack = false) ∧
    (inWrite .req).Inv ∧ 1 ≤ (inWrite .req).cfg.ackPollBound ∧
      (inWrite .req).seq = .handler (.block .fromHost 0 (.dp2 (hsStart .fromHost))) ∧
      (inWrite .req).resetFlag = false ∧ (inWrite .req).host.ack = false :=
  ⟨⟨inRead_inv _, by decide, rfl, rfl, rfl⟩, inWrite_inv _, by decide, rfl, rfl, rfl⟩

/-- The Reset Flag set. -/
def flagged (s : State) : State := { s with resetFlag := true }

theorem flagged_inv {s : State} (h : s.Inv) : (flagged s).Inv :=
  ⟨h.buf, h.dir, h.req, h.bsy, h.free, h.lun, h.phase, h.lines, h.xfer, h.handler, h.count, h.steps, h.send, h.receive⟩

theorem witness_ResetEndsEveryWait :
    ((flagged (inRead .wait)).Inv ∧ (flagged (inRead .wait)).resetFlag = true ∧
      (flagged (inRead .wait)).seq.engine = some (.toHost, .wait)) ∧
    ((flagged inCdb).Inv ∧ (flagged inCdb).resetFlag = true ∧ (flagged inCdb).seq.engine = some (.fromHost, .wait)) ∧
    ((flagged inStatus).Inv ∧ (flagged inStatus).seq.engine = some (.toHost, .wait)) ∧
    (flagged inString).Inv ∧ (flagged inString).seq.engine = some (.toHost, .wait) :=
  ⟨⟨flagged_inv (inRead_inv _), rfl, rfl⟩, ⟨flagged_inv inCdb_inv, rfl, rfl⟩, ⟨flagged_inv inStatus_inv, rfl⟩,
    flagged_inv inString_inv, rfl⟩

theorem witness_BlockToHostInOrder :
    atRead.Inv ∧ atRead.seq = .handler (.block .toHost 0 .dp0) ∧ atRead.resetFlag = false ∧
      atRead.host.ack = false ∧ atRead.host.db = none ∧ (List.replicate 256 2).length = 256 ∧
      ∀ d ∈ List.replicate 256 2, d < atRead.cfg.ackPollBound :=
  ⟨atRead_inv, rfl, rfl, rfl, rfl, List.length_replicate, fun d h => by
    rw [List.eq_of_mem_replicate h]; decide⟩

/-- WRITE6 and MODE SELECT past their boundary, as the step at `SQ_DISPATCH` leaves them; INQUIRY too. -/
def pastWrite : State := stand (.handler (.block .fromHost 0 .dp1)) .dataOut false cWrite []
def pastString : State := stand (.handler (.bytesIn [1, 2, 3] .dp1)) .dataIn false cInquiry []
def pastReceive : State := stand (.handler (.bytesOut 3 [] .dp1)) .dataOut false cSelect []

theorem witness_BlockFromHostInOrder :
    (pastWrite.Inv ∧ pastWrite.seq = .handler (.block .fromHost 0 .dp1) ∧ pastWrite.resetFlag = false ∧
      pastWrite.host.ack = false) ∧
    atWrite.Inv ∧ atWrite.seq = .handler (.block .fromHost 0 .dp0) ∧ atWrite.resetFlag = false ∧
      atWrite.host.ack = false ∧ (List.replicate 256 ((2, 0xE5) : Nat × Byte)).length = 256 ∧
      ∀ p ∈ List.replicate 256 ((2, 0xE5) : Nat × Byte), p.1 < atWrite.cfg.ackPollBound :=
  ⟨⟨stand_inv rfl rfl (by decide) (by decide) (by intro d g e; cases e) (by intro k e; cases e; rfl) (by simp)
    (by simp), rfl, rfl, rfl⟩, atWrite_inv, rfl, rfl, rfl, List.length_replicate,
    fun p h => by rw [List.eq_of_mem_replicate h]; decide⟩

/-- A TRANSLATE string at its boundary. -/
def atString : State := stand (.handler (.bytesIn [1, 2, 3] .dp0)) .command false ⟨0x0F, 0, 0, 0, 0, 0⟩ []

theorem witness_ByteStringToHost :
    (pastString.Inv ∧ pastString.seq = .handler (.bytesIn [1, 2, 3] .dp1) ∧ pastString.resetFlag = false ∧
      pastString.host.ack = false ∧ pastString.host.db = none) ∧
    atString.Inv ∧ atString.seq = .handler (.bytesIn [1, 2, 3] .dp0) ∧ atString.resetFlag = false ∧
      atString.host.ack = false ∧ atString.host.db = none ∧ [0, 7, 1].length = [1, 2, 3].length :=
  ⟨⟨stand_inv rfl rfl (by decide) (by decide) (by intro d g e; cases e) (by intro k e; cases e; rfl)
      (by intro b w e; cases e; simp) (by simp), rfl, rfl, rfl, rfl⟩,
    stand_inv rfl rfl (by decide) (by decide) (by intro d g e; cases e) (by intro k e; cases e; rfl)
      (by intro b w e; cases e; simp) (by simp), rfl, rfl, rfl, rfl, rfl⟩

theorem witness_ByteStringFromHost :
    pastReceive.Inv ∧ pastReceive.seq = .handler (.bytesOut [(0, (1 : Byte)), (7, 2), (1, 3)].length [] .dp1) ∧
      pastReceive.resetFlag = false ∧ pastReceive.host.ack = false :=
  ⟨stand_inv rfl rfl (by decide) (by decide) (by intro d g e; cases e) (by intro k e; cases e; rfl)
    (by simp) (by intro n b w e; cases e; simp), rfl, rfl, rfl⟩

theorem witness_CommandPhaseReadsSixBytes :
    (stand .cmd1 .command false cRead []).Inv ∧ (stand .cmd1 .command false cRead []).seq = .cmd1 ∧
      (stand .cmd1 .command false cRead []).resetFlag = false ∧
      (stand .cmd1 .command false cRead []).host.ack = false ∧
      [(0, (8 : Byte)), (1, 0), (0, 0), (9, 0), (0, 1), (0, 0)].length = 6 :=
  ⟨stand_inv rfl rfl (by decide) (by decide) (by intro d g e; cases e) (by simp) (by simp) (by simp),
    rfl, rfl, rfl, rfl⟩

theorem witness_StatusMessageRelease :
    (stand .stat1 .status false cRead []).Inv ∧ (stand .stat1 .status false cRead []).seq = .stat1 ∧
      (stand .stat1 .status false cRead []).resetFlag = false ∧
      (stand .stat1 .status false cRead []).host.ack = false ∧ (stand .stat1 .status false cRead []).host.db = none :=
  ⟨stand_inv rfl rfl (by decide) (by decide) (by intro d g e; cases e) (by simp) (by simp) (by simp),
    rfl, rfl, rfl, rfl⟩

/-- SEQ idle, the host with a matching selection byte and SEL asserted. -/
def idle : State := { State.reset with cfg := Config.testVectors 3 [], host := ⟨false, true, false, false, some 0x61⟩ }

theorem witness_BusFreePoll :
    (idle.seq = .bf1 ∧ idle.dbDir = .input ∧ (0x61 : Byte) = idle.host.db.getD (Config.freeByte idle.draws)) ∧
    State.reset.seq = .bf1 ∧ State.reset.dbDir = .input ∧
      Config.freeByte 0 = State.reset.host.db.getD (Config.freeByte State.reset.draws) :=
  ⟨⟨rfl, rfl, rfl⟩, rfl, rfl, rfl⟩

theorem witness_SelectionSteps :
    (stand .sel1 .arbSel false cRead []).seq = .sel1 ∧ (stand .sel2 .arbSel false cRead [good]).seq = .sel2 ∧
    ((stand (.sel3 true) .arbSel false cRead []).seq = .sel3 true ∧
      (stand (.sel3 true) .arbSel false cRead []).resetFlag = false) ∧
    (stand (.sel3 false) .arbSel false cRead []).seq = .sel3 false ∧
      (stand (.sel3 false) .arbSel false cRead []).resetFlag = false := ⟨rfl, rfl, ⟨rfl, rfl⟩, rfl, rfl⟩

theorem witness_SequencerPhaseLines :
    ((stand .cmd1 .command false cRead []).out.req = false ∧ (stand .cmd1 .command false cRead []).seq = .cmd1) ∧
    ((stand .stat1 .status false cRead []).out.req = false ∧ (stand .stat1 .status false cRead []).seq = .stat1) ∧
    (stand .msg1 .messageIn false cRead []).out.req = false ∧
      (stand .msg1 .messageIn false cRead []).seq = .msg1 := ⟨⟨rfl, rfl⟩, ⟨rfl, rfl⟩, rfl, rfl⟩

theorem witness_Boundaries :
    ((flagged (stand (.sel3 false) .arbSel false cRead [])).resetFlag = true ∧
      (flagged (stand (.sel3 false) .arbSel false cRead [])).seq ∈
        [Seq.sel3 true, .sel3 false, .cmd3, .disp1, .stat3, .msg3]) ∧
    ((stand .cmd3 .command false cRead []).resetFlag = false ∧ (stand .cmd3 .command false cRead []).seq = .cmd3) ∧
    (returnsAtOnce (decodeCdb Opc.default cRead) (stand .cmd3 .command false cRead []) = false ∧
      returnsAtOnce (.illegal 0xFF ⟨0, 0, 0, 0⟩) (stand .cmd3 .command false cRead []) = true) ∧
    (stand .disp1 .command false cRead []).seq = .disp1 ∧ (stand .stat3 .status false cRead []).seq = .stat3 ∧
    (stand .msg3 .messageIn false cRead []).seq = .msg3 := by
  refine ⟨⟨rfl, ?_⟩, ⟨rfl, rfl⟩, ⟨rfl, rfl⟩, rfl, rfl, rfl⟩
  decide

theorem witness_BusFreeEntry : (stand .rel .messageIn false cRead []).seq = .rel := rfl

theorem witness_ResetHandling : (flagged (stand .rst1 .dataOut false cRead [])).seq = .rst1 := rfl

theorem witness_ResetMonitorStep : { inRead .wait with rstPending := true }.rstPending = true := rfl

theorem witness_DutifulHostNeverRefused :
    ((inWrite .wait).Inv ∧ dutiful .none (.host (.drive 8)) (inWrite .wait) = true) ∧
      (inRead .wait).Inv ∧ dutiful .none (.host (.line .ack true)) (inRead .wait) = true ∧
      dutiful .none (.host (.line .rst true)) (inRead .wait) = true ∧ (inRead .wait).dbDir = .output :=
  ⟨⟨inWrite_inv _, by decide⟩, inRead_inv _, by decide, rfl, rfl⟩

/-- A step of each agent from a state that meets the invariant: SEQ's, with REQ asserted, and in the idle wait. -/
theorem witness_InvStep :
    (inRead .wait).Inv ∧ (inRead .wait).out.req = true ∧
      step (inRead .wait) = .next { inRead .wait with polls := 1 } ∧
      step { inRead .wait with sched := [.host (.line .rst true), .mon] } =
        .next { inRead .wait with
          sched := [.mon], rstPending := true, host := ⟨true, false, false, false, none⟩ } :=
  ⟨inRead_inv _, rfl, rfl, rfl⟩

/-- The same with a write of `phase`. -/
theorem witness_PhaseTable :
    atWrite.Inv ∧ step atWrite = .next
      { atWrite with
        phase := .dataOut
        seq := .handler (.block .fromHost 0 .dp1)
        diag := [.phaseEntry .dataOut] } := ⟨atWrite_inv, rfl⟩

theorem witness_Ownership :
    agentStep .seq (inRead .wait) = .next { inRead .wait with polls := 1 } ∧
      agentStep .mon (inRead .wait) = .next (inRead .wait) ∧
      agentStep (.host (.line .ack true)) (inRead .wait) =
        .next { inRead .wait with host := ⟨false, false, true, false, none⟩ } := ⟨rfl, rfl, rfl⟩

theorem witness_HandlerRights :
    exec (.read6 ⟨0, 0, 1, 0⟩) (inRead .timeout) = .next
        { inRead .timeout with
          resetFlag := true
          seq := .handler (.block .toHost 0 (.dp2 .abort))
          diag := [.error .transportFailure] } ∧
      (inRead .timeout).seq.engine = some (.toHost, .timeout) := ⟨rfl, rfl⟩

theorem witness_DispatchResult :
    ∃ t, exec (.illegal 0xFF ⟨0, 0, 0, 0⟩) (atDisp ⟨0xFF, 0, 0, 0, 0, 0⟩ []) = .next t ∧ t.seq = .disp1 :=
  ⟨_, rfl, rfl⟩

theorem witness_PartialBlockNeverPersisted :
    (∃ t, exec (.write6 ⟨0, 5, 1, 0⟩) { inWrite .sample with n := 255, host := ⟨false, false, true, false, some 8⟩ } =
        .next t ∧ t.seq = .handler (.call 0)) ∧
      ∃ t, exec (.write6 ⟨0, 5, 1, 0⟩) (stand (.handler (.call 0)) .dataOut false cWrite [good]) = .next t :=
  ⟨⟨_, rfl, rfl⟩, _, rfl⟩

theorem witness_StepRunsDecoded :
    (nextMove (atDisp cRead [good]) = .seq ∧ (atDisp cRead [good]).seq = .disp) ∧
      (nextMove atRead = .seq ∧ ∃ k, atRead.seq = .handler k) ∧
      (let s := stand .cmd3 .command false ⟨0xFF, 0, 0, 0, 0, 0⟩ []
       nextMove s = .seq ∧ s.seq = .cmd3 ∧ s.resetFlag = false ∧
        returnsAtOnce (decodeCdb s.cfg.opc s.cdb) s = true) :=
  ⟨⟨rfl, rfl⟩, ⟨rfl, _, rfl⟩, rfl, rfl, rfl, rfl⟩

theorem witness_AtDispatch : (atDisp cRead [good]).seq = .disp ∧ (atDisp cRead [good]).resetFlag = false ∧
    (nextAnswer (atDisp cRead [good])).bytes.length ≤ 256 ∧ (nextAnswer (atDisp cRead [good])).err = none ∧
    (nextAnswer (atDisp cRead [bad .ioError])).err = some .ioError := ⟨rfl, rfl, by decide, rfl, rfl⟩

theorem witness_AtCall : (stand (.handler (.call 1)) .command false cVerify [good]).seq = .handler (.call 1) ∧
    1 < blockCount ⟨0, 0, 2, 0⟩ ∧ ¬ 2 < blockCount ⟨0, 0, 2, 0⟩ ∧
    (nextAnswer (stand (.handler (.call 1)) .command false cVerify [good])).err = none := ⟨rfl, by decide, by decide, rfl⟩

theorem witness_LastByteSent : { inRead .release with n := 255 }.seq =
      .handler (.block .toHost 0 (.dp2 .release)) ∧ { inRead .release with n := 255 }.n = 255 := ⟨rfl, rfl⟩

theorem witness_SenseAndInquiryStart :
    (∃ bytes, bytes = List.take (min 4 (if (⟨0, 0, 0, 0⟩ : Fields).len = 0 then 4 else 0))
        [(atDisp ⟨3, 0, 0, 0, 0, 0⟩ []).sense[(3 : Lun)].code, 0, 0, 0] ∧ bytes = [0x55, 0, 0, 0]) ∧
      (atDisp cInquiry []).cfg.inquiryData.take (min (atDisp cInquiry []).cfg.inquiryData.length 0) = [] ∧
      (atDisp cInquiry []).cfg.inquiryData.take (min (atDisp cInquiry []).cfg.inquiryData.length 255) =
        [0x11, 0x22, 0x33, 0x44] := ⟨⟨_, rfl, rfl⟩, rfl, rfl⟩

theorem witness_ByteStringSent :
    (stand (.handler (.bytesIn [7] (.dp2 .release))) .dataIn true cInquiry []).seq =
      .handler (.bytesIn [7] (.dp2 .release)) := rfl

theorem witness_ModeSelectCommand :
    ((atDisp cSelect []).seq = .disp ∧ (cSelect.fields).len ≠ 0 ∧ (atDisp cSelect []).resetFlag = false) ∧
    ((atDisp ⟨0x15, 0, 0, 0, 0, 0⟩ [good]).seq = .disp ∧ (⟨0x15, 0, 0, 0, 0, 0⟩ : Cdb).fields.len = 0) ∧
    (stand (.handler (.put [1, 2, 3])) .dataOut false cSelect [good]).seq = .handler (.put [1, 2, 3]) :=
  ⟨⟨rfl, by decide, rfl⟩, ⟨rfl, rfl⟩, rfl⟩

theorem witness_DataPhase :
    (handlerMayStandAt (.read6 ⟨0, 0, 1, 0⟩) (.block .toHost 0 .dp0) = true ∧
      atRead.seq = .handler (.block .toHost 0 .dp0)) ∧
    (handlerMayStandAt (.vPath ⟨0, 0, 1, 0⟩) (.block .fromHost 0 .dp0) = true ∧
      atWrite.seq = .handler (.block .fromHost 0 .dp0)) ∧
    (handlerMayStandAt (.translate ⟨0, 0, 1, 0⟩) (.bytesIn [1, 2, 3] .dp0) = true ∧
      atString.seq = .handler (.bytesIn [1, 2, 3] .dp0)) ∧
    ((atDisp cWrite []).seq = .disp ∧ (flagged (atDisp cWrite [])).seq = .disp) ∧
    ((⟨0, 0, 3, 0⟩ : Fields).len ≠ 0 ∧ (atDisp cSelect []).seq = .disp) ∧
    inquiryBytes ⟨0, 0, 3, 0⟩ (atDisp cInquiry []) ≠ [] :=
  ⟨⟨rfl, rfl⟩, ⟨rfl, rfl⟩, ⟨rfl, rfl⟩, ⟨rfl, rfl⟩, ⟨by decide, rfl⟩, by decide⟩

theorem witness_DataPhaseLines :
    ((stand (.handler (.block .toHost 0 .dp1)) .dataIn false cRead []).out.req = false ∧
      handlerMayStandAt (.vInfo ⟨0, 0, 1, 0⟩) (.block .toHost 0 .dp1) = true) ∧
    handlerMayStandAt (.vSelect ⟨0, 0, 1, 0⟩) (.block .fromHost 0 .dp1) = true ∧
    handlerMayStandAt (.modeSense ⟨0, 0, 1, 0⟩) (.bytesIn [1] .dp1) = true ∧
    handlerMayStandAt (.modeSelect ⟨0, 0, 1, 0⟩) (.bytesOut 1 [] .dp1) = true := ⟨⟨rfl, rfl⟩, rfl, rfl, rfl⟩

theorem witness_ShortTransferEndsHandler :
    ((inRead .abort).n < 256 ∧ (inRead .abort).seq = .handler (.block .toHost 0 (.dp2 .abort)) ∧
      handlerMayStandAt (.fcodeRead ⟨0, 0, 0, 0⟩) (.block .toHost 0 (.dp2 .abort)) = true) ∧
    handlerMayStandAt (.inquiry ⟨0, 0, 0, 0⟩) (.bytesIn [1] (.dp2 .abort)) = true ∧
    handlerMayStandAt (.modeSelect ⟨0, 0, 0, 0⟩) (.bytesOut 1 [] (.dp2 .abort)) = true :=
  ⟨⟨by decide, rfl, rfl⟩, rfl, rfl⟩

/-! ### The Signal Layer's examples, selection, and the mirror peer -/

/-- R131's example: `setLine(REQ, true)` puts pin `REQ_n` at level 0. -/
theorem test_setLine_req : (nextOf (setLine .req true (inRead .drive))).map (fun t => (pins t).reqN) = some false := by
  rfl

/-- R134's example: `0xA5` written while the bus is output puts `0x5A` on the pins. -/
theorem test_writeDataBus : (pins (writeDataBus 0xA5 (inRead .idle))).dbN = .driven 0x5A := by rfl

/-- R135's example: the host drives `0xF7` on the pins, and the byte read is `0x08`. -/
theorem test_readDataBus :
    (pins { idle with host := ⟨false, false, false, false, some 0x08⟩ }).dbN = .driven 0xF7 ∧
      readDataBus { idle with host := ⟨false, false, false, false, some 0x08⟩ } = 0x08 := by decide

/-- R93: `sel_byte = 0x61` selects LUN 3 of target 0, and `0x60` is not for target 0. -/
theorem test_selection_byte :
    (Config.testVectors 3 []).matchesId 0x61 = true ∧ (Config.testVectors 3 []).lunOf 0x61 = 3 ∧
      (Config.testVectors 3 []).matchesId 0x60 = false := by
  simp [Config.matchesId, Config.lunOf, Config.testVectors]

/-- R337, `receive-from-target`: under REQ the mirror peer records the byte and asserts ACK. -/
theorem test_peer_takes :
    peerReact ⟨[.receive 1], [], none⟩ { inRead .wait with dbOut := 0x41 } =
      (some (.line .ack true), ⟨[.receive 1], [0x41], none⟩) := by decide

/-- R337, `send-to-target`: under REQ the mirror peer puts its byte on the bus first. -/
theorem test_peer_gives :
    peerReact ⟨[.send [8]], [], none⟩ (inWrite .wait) = (some (.drive 8), ⟨[.send [8]], [], none⟩) := by decide

/-- R337, R336: a byte given under the lines of DataOut is let go when the target shows Status, whatever the script
says next, and held while the lines are the same. -/
theorem test_peer_lets_go :
    (let s := { inStatus with host := ⟨false, false, false, false, some 8⟩ }
     (peerReact ⟨[.stall], [], some (phaseLines (inWrite .wait))⟩ s).1 = some .release ∧
      (peerReact ⟨[], [], some (phaseLines (inWrite .wait))⟩ s).1 = some .release) ∧
    (peerReact ⟨[], [], some (phaseLines (inWrite .wait))⟩
      { inWrite .sample with host := ⟨false, false, false, false, some 8⟩ }).1 = none := by decide

/-- The event order of R97 keeps every duty, in both directions, with vain polls. -/
theorem test_rounds_dutiful :
    dutifulRun (giveRound 1 8 ++ giveRound 0 9) .none (inWrite .req) = true ∧
      dutifulRun (takeRound 1 ++ takeRound 0) .none (inRead .idle) = true := by decide

/-- R334: an acknowledged byte is neither released nor changed before SEQ has sampled it, nor at the sample's end. -/
theorem test_undutiful_release :
    (let s := { inWrite .sample with host := ⟨false, false, false, false, some 8⟩ }
     dutiful ⟨true, false, false⟩ (.host .release) s = false ∧
      dutiful ⟨true, false, false⟩ (.host (.drive 9)) s = false) ∧
    dutifulRun ((giveRound 0 8).dropLast ++ [.host .release]) .none (inWrite .req) = false := by decide

/-- R335: under SEL, before BSY, the selection byte stays; after BSY, SEL and then the byte go, before the first REQ. -/
theorem test_selection_duty :
    dutiful ⟨false, true, false⟩ (.host .release) idle = false ∧
      dutiful ⟨false, true, false⟩ (.host (.drive 0x21)) idle = false ∧
      (let s := { stand .sel2 .arbSel false cRead [] with host := ⟨false, true, false, false, some 1⟩ }
       dutifulRun [.host (.line .sel false), .host .release] ⟨false, true, true⟩ s = true) ∧
      (let s := { stand (.cmd2 0 .req) .command false cRead [] with host := ⟨false, true, false, false, some 1⟩ }
       dutiful ⟨false, true, true⟩ .seq s = false) := by decide

/-- R336: with I/O asserted the host lets go of the bus before it moves ACK. -/
theorem test_contention_duty :
    (let s := { inStatus with host := ⟨false, false, false, false, some 8⟩ }
     dutiful .none (.host (.line .ack true)) s = false ∧ dutiful .none (.host .release) s = true) := by decide

/-- R331: a REQ that was withdrawn unanswered stays so, whatever ACK a later REQ is given (program P5). -/
theorem test_withdrawn_req_unanswered {run : Nat → State} {n j m : Nat} (hj : n < j) (hm : j ≤ m)
    (h : (run j).out.req = false) : ¬ IsAnswer run n m := fun a => by simpa [h] using a.up j hj hm

/-- R331: the ACK of a REQ that is up is its answer. -/
theorem test_ack_answers :
    IsAnswer (fun j => if j = 0 then inRead .drive
        else if j = 1 then inRead .wait
        else { inRead .wait with host := ⟨false, false, true, false, none⟩ }) 0 1 where
  later := by decide
  up j h h' := by obtain rfl : j = 1 := by omega
                  rfl
  edge := .inl ⟨rfl, rfl⟩

/-- R43 item 4: the phase register is as it was where SEQ has gone to Reset handling, and BusFree once `RST1` has
released the outputs. -/
theorem test_phase_at_reset :
    (nextOf (seqStep (flagged (stand .disp1 .dataIn false cRead [])))).map (fun t => (t.seq, t.phase)) =
        some (.rst1, .dataIn) ∧
      (nextOf (play [.seq, .seq] (flagged (stand .disp1 .dataIn false cRead []))).2).map
        (fun t => (t.seq, t.phase, t.out)) = some (.rst3, .busFree, .released) := by decide

/-- R333: the host samples once for each byte, before its ACK is asserted and under REQ only. -/
theorem test_sample_before_ack :
    (play [.host (.line .ack true), .host (.line .ack true)] { inRead .wait with dbOut := 7 }).1 = [7] ∧
      (play [.host (.line .ack true)] { inRead .drive with dbOut := 7 }).1 = [] := by decide

/-- R12, R248: an unmatched opcode completes in the step at `CMD3`. -/
theorem test_illegal_in_cmd3 :
    (nextOf (seqStep (stand .cmd3 .command false ⟨0xFF, 0, 0, 0, 0, 0⟩ []))).map
        (fun t => (t.seq, t.status, t.sense[3])) = some (.disp1, 0x02, ⟨0x20, 0, 0, 0⟩) := by rfl

/-- R155's example in small: a bound of 3, three polls without ACK, and the Reset Flag on the step after. -/
theorem test_timeout_after_three_polls :
    (play [.seq, .seq, .seq] (inRead .wait)).2 = .next
        { inRead .wait with polls := 3, seq := .handler (.block .toHost 0 (.dp2 .timeout)) } ∧
      ((nextOf (play [.seq, .seq, .seq, .seq] (inRead .wait)).2).map fun t => t.resetFlag) = some true := ⟨rfl, rfl⟩

end Sys2Proof.Tests
end

