-- ==== Sys2Proof/Proofs/Boundaries.lean ====
section
/-! PROOF. The phase boundaries of the sequencer (R181, R187, R190 to R194), and the handlers that take no step
(R207, R235, R248). -/

namespace Sys2Proof.Machine

/-! ### A boundary, for each value of the Reset Flag (R181) -/

theorem boundary_of_flag (k : State → State) {s : State} (h : s.resetFlag = true) :
    boundary k s = { s with seq := .rst1 } := by
  simp [boundary, h, gotoReset_eq]

theorem boundary_of_no_flag (k : State → State) {s : State} (h : s.resetFlag = false) : boundary k s = k s := by
  simp [boundary, h]

/-! ### SEQ's step at the boundaries outside the data procedures -/

theorem seqStep_sel3 {present : Bool} {s : State} (hs : s.seq = .sel3 present) : seqStep s = .next
    (boundary (fun t => if present then goto .cmd1 (setPhase .command t) else lunNotPresent t) s) := by
  simp only [seqStep, hs, selectDone]

theorem seqStep_cmd3 {s : State} (hs : s.seq = .cmd3) : seqStep s = commandDone s := by
  simp only [seqStep, hs]

theorem seqStep_disp1 {s : State} (hs : s.seq = .disp1) :
    seqStep s = .next (boundary (fun t => goto .stat1 (setPhase .status t)) s) := by
  simp only [seqStep, hs]

theorem seqStep_stat3 {s : State} (hs : s.seq = .stat3) :
    seqStep s = .next (boundary (fun t => goto .msg1 (setPhase .messageIn t)) s) := by
  simp only [seqStep, hs]

theorem seqStep_msg3 {s : State} (hs : s.seq = .msg3) : seqStep s = .next (boundary (goto .rel) s) := by
  simp only [seqStep, hs]

/-- PB3 with the flag set: `CMD3` makes its own test, and comes to what `boundary` does. -/
theorem commandDone_of_flag {s : State} (h : s.resetFlag = true) : commandDone s = .next { s with seq := .rst1 } := by
  obtain ⟨-, heq⟩ | ⟨hf, -⟩ | ⟨hf, -⟩ := commandDone_cases s
  · rw [heq, gotoReset_eq]
  · simp [h] at hf
  · simp [h] at hf

/-- PB3 with the flag clear: dispatch, or the whole handler where it takes no step (log entry 11). -/
theorem commandDone_of_no_flag {s : State} (h : s.resetFlag = false) : commandDone s =
    if returnsAtOnce (fetched s) s then exec (fetched s) (goto .disp s) else .next (goto .disp s) := by
  obtain ⟨hf, -⟩ | ⟨-, hr, heq⟩ | ⟨-, hr, heq⟩ := commandDone_cases s
  · simp [h] at hf
  · rw [heq, if_pos hr]
  · rw [heq, if_neg (by simp [hr])]

/-- A true flag wins at each of the boundaries, whatever would have followed (R283). -/
theorem seqStep_boundary_of_flag {s : State} (h : s.resetFlag = true)
    (hs : s.seq ∈ [Seq.sel3 true, .sel3 false, .cmd3, .disp1, .stat3, .msg3]) :
    seqStep s = .next { s with seq := .rst1 } := by
  simp only [List.mem_cons, List.not_mem_nil, or_false] at hs
  obtain hs | hs | hs | hs | hs | hs := hs
  · rw [seqStep_sel3 hs, boundary_of_flag _ h]
  · rw [seqStep_sel3 hs, boundary_of_flag _ h]
  · rw [seqStep_cmd3 hs, commandDone_of_flag h]
  · rw [seqStep_disp1 hs, boundary_of_flag _ h]
  · rw [seqStep_stat3 hs, boundary_of_flag _ h]
  · rw [seqStep_msg3 hs, boundary_of_flag _ h]

/-! ### Handlers that take no step -/

/-- INQUIRY sends nothing where the allocation is zero or there is no inquiry data (R224, R235). -/
theorem inquiryBytes_eq_nil_iff (f : Fields) (s : State) :
    inquiryBytes f s = [] ↔ f.len = 0 ∨ s.cfg.inquiryData = [] := by
  have hlen : f.len.toNat = 0 ↔ f.len = 0 := BitVec.toNat_inj (y := 0)
  simp only [inquiryBytes, Config.inqLen, List.take_eq_nil_iff, Nat.min_eq_zero_iff, List.length_eq_zero_iff, hlen]
  tauto

theorem returnsAtOnce_iff (i : Instr) (s : State) : returnsAtOnce i s = true ↔
    (∃ op f, i = .illegal op f) ∨ ∃ f, i = .inquiry f ∧ (f.len = 0 ∨ s.cfg.inquiryData = []) := by
  cases i with
  | illegal op f => simp [returnsAtOnce]
  | inquiry f => simp [returnsAtOnce, inquiryBytes_eq_nil_iff]
  | _ => simp [returnsAtOnce]

/-- Settles O24: each boundary by the value of the flag, and the handlers without steps by their own lemma. -/
theorem boundaries : Obligations.Boundaries := by
  intro s
  refine ⟨seqStep_boundary_of_flag, fun h => ⟨fun hs => ?cmd3, fun hs => ?disp1, fun hs => ?stat3, fun hs => ?msg3⟩,
    fun i => returnsAtOnce_iff i s⟩
  case cmd3 => rw [seqStep_cmd3 hs, commandDone_of_no_flag h]; rfl
  case disp1 => rw [seqStep_disp1 hs, boundary_of_no_flag _ h]; rfl
  case stat3 => rw [seqStep_stat3 hs, boundary_of_no_flag _ h]; rfl
  case msg3 => rw [seqStep_msg3 hs, boundary_of_no_flag _ h]; rfl

end Sys2Proof.Machine
end

/-! PROOF. The invariant of R43: it holds after power-on, every step of every agent keeps it, and what its steps say of
the lines under REQ and of the owner of each register (R39, R40, R43, R290, R312, R322).

A step of SEQ is inverted once (`seqStep_cases`, for the handlers `exec_handlerStep`) into what it does to the lines
(`BusStep`), to the phase register, to the buffer and to SEQ's position; the statements are read off from that. -/

namespace Sys2Proof.Machine

/-! ### Where SEQ stands -/

/-- The data procedure that a handler's position is inside, and where in it. -/
def HandlerPos.data? (k : HandlerPos) : Option (XferDir × DataPos) :=
  match k with
  | .call _ => none
  | .put _ => none
  | .block dir _ p => some (dir, p)
  | .bytesIn _ p => some (.toHost, p)
  | .bytesOut _ _ p => some (.fromHost, p)

theorem engine_of_dp1 {k : HandlerPos} {dir : XferDir} (h : k.data? = some (dir, .dp1)) :
    (Seq.handler k).engine = none := by
  cases k <;> simp_all [HandlerPos.data?, Seq.engine]

theorem engine_of_dp2 {k : HandlerPos} {dir : XferDir} {w : Hs} (h : k.data? = some (dir, .dp2 w)) :
    (Seq.handler k).engine = some (dir, w) := by
  cases k <;> simp_all [HandlerPos.data?, Seq.engine]

/-- Past its boundary a data procedure stands in the phase of its direction (R205 to R208). -/
theorem phases_of_data {k : HandlerPos} {dir : XferDir} {p : DataPos} (h : k.data? = some (dir, p)) (hp : p ≠ .dp0) :
    (Seq.handler k).phases = [phaseOfDir dir] := by
  cases k with
  | call j => simp [HandlerPos.data?] at h
  | put q => simp [HandlerPos.data?] at h
  | block d j p' =>
    obtain ⟨rfl, rfl⟩ : d = dir ∧ p' = p := by simpa [HandlerPos.data?] using h
    cases p' <;> simp_all [Seq.phases, HandlerPos.phases]
  | bytesIn rest p' =>
    obtain ⟨rfl, rfl⟩ : .toHost = dir ∧ p' = p := by simpa [HandlerPos.data?] using h
    cases p' <;> simp_all [Seq.phases, HandlerPos.phases, phaseOfDir]
  | bytesOut rest q p' =>
    obtain ⟨rfl, rfl⟩ : .fromHost = dir ∧ p' = p := by simpa [HandlerPos.data?] using h
    cases p' <;> simp_all [Seq.phases, HandlerPos.phases, phaseOfDir]

theorem holdsReq_of_engine_none {q : Seq} (h : q.engine = none) : q.holdsReq = false := by
  simp [Seq.holdsReq, h]

theorem holdsReq_of_engine {q : Seq} {dir : XferDir} {w : Hs} (h : q.engine = some (dir, w)) :
    q.holdsReq = w.holdsReq := by
  simp [Seq.holdsReq, h]

theorem holdsBus_of_engine {q : Seq} {dir : XferDir} {w : Hs} (h : q.engine = some (dir, w)) :
    q.holdsBus = some true := by
  cases q <;> simp_all [Seq.engine, Seq.holdsBus]

theorem busFree_not_mem_phases_of_engine {q : Seq} {dir : XferDir} {w : Hs} (h : q.engine = some (dir, w)) :
    Phase.busFree ∉ q.phases := by
  cases q with
  | handler k =>
    have hk : ∃ d p, k.data? = some (d, p) ∧ p ≠ .dp0 := by
      cases k with
      | call j => simp [Seq.engine] at h
      | put q => simp [Seq.engine] at h
      | block d j p => cases p <;> simp_all [Seq.engine, HandlerPos.data?]
      | bytesIn rest p => cases p <;> simp_all [Seq.engine, HandlerPos.data?]
      | bytesOut rest q p => cases p <;> simp_all [Seq.engine, HandlerPos.data?]
    obtain ⟨d, p, hd, hp⟩ := hk
    rw [phases_of_data hd hp]
    cases d <;> simp [phaseOfDir]
  | cmd2 i w' => simp [Seq.phases]
  | stat2 w' => simp [Seq.phases]
  | msg2 w' => simp [Seq.phases]
  | _ => simp [Seq.engine] at h

/-- Inside `dispatch` with no data phase begun or asked for the lines of one (R202). -/
structure Seq.BetweenPhases (q : Seq) : Prop where
  engine : q.engine = none
  phases : ∀ p ∈ q.phases, p ∈ dispatchPhases
  holdsBus : q.holdsBus = some true

theorem disp_between : Seq.disp.BetweenPhases := ⟨rfl, by simp [Seq.phases, dispatchPhases], rfl⟩

theorem call_between (k : Nat) : (Seq.handler (.call k)).BetweenPhases := ⟨rfl, fun _ hp => hp, rfl⟩

theorem put_between (q : List Byte) : (Seq.handler (.put q)).BetweenPhases := ⟨rfl, fun _ hp => hp, rfl⟩

theorem dp0_between {k : HandlerPos} {dir : XferDir} (h : k.data? = some (dir, .dp0)) :
    (Seq.handler k).BetweenPhases := by
  cases k with
  | call j => exact call_between j
  | put q => exact put_between q
  | block d j p =>
    obtain ⟨rfl, rfl⟩ : d = dir ∧ p = .dp0 := by simpa [HandlerPos.data?] using h
    exact ⟨rfl, fun _ hp => hp, rfl⟩
  | bytesIn rest p =>
    obtain ⟨-, rfl⟩ : _ ∧ p = .dp0 := by simpa [HandlerPos.data?] using h
    exact ⟨rfl, fun _ hp => hp, rfl⟩
  | bytesOut rest q p =>
    obtain ⟨-, rfl⟩ : _ ∧ p = .dp0 := by simpa [HandlerPos.data?] using h
    exact ⟨rfl, fun _ hp => hp, rfl⟩

/-- What the handler's local variables meet at a position: `n` names a buffer byte (R34, R155), and a byte string is
sent or received only where it has bytes (R207, R208). -/
def HandlerPos.Sound (n : Nat) (k : HandlerPos) : Prop :=
  match k with
  | .call _ => True
  | .put _ => True
  | .block _ _ .dp0 => True
  | .block _ _ .dp1 => True
  | .block _ _ (.dp2 _) => n < blockSize
  | .bytesIn rest _ => rest ≠ []
  | .bytesOut rest _ _ => rest ≠ 0

/-- Where the handler of `i` stands, if it does, is a position of its own, with sound local variables. -/
def StandsSound (i : Instr) (s : State) : Prop :=
  ∀ k, s.seq = .handler k → handlerMayStandAt i k = true ∧ k.Sound s.n

/-- The part of the invariant that speaks of SEQ's position inside `dispatch`. -/
structure State.InDispatchOk (s : State) : Prop where
  stands : StandsSound (fetched s) s
  steps : s.seq = .disp → returnsAtOnce (fetched s) s = false

theorem inDispatchOk_of_outside {s : State} (hd : s.seq ≠ .disp) (hh : ∀ k, s.seq ≠ .handler k) : s.InDispatchOk :=
  ⟨fun k hk => absurd hk (hh k), fun h => absurd h hd⟩

theorem State.Inv.inDispatchOk {s : State} (h : s.Inv) : s.InDispatchOk where
  stands k hk := by
    refine ⟨h.handler k hk, ?_⟩
    cases k with
    | call j => trivial
    | put q => trivial
    | block dir j p =>
      cases p with
      | dp0 => trivial
      | dp1 => trivial
      | dp2 w => exact h.count dir j w hk
    | bytesIn rest p => exact h.send rest p hk
    | bytesOut rest q p => exact h.receive rest q p hk
  steps := h.steps

/-- A handler's rights do not depend on where inside a block it stands. -/
theorem mayStandAt_block (i : Instr) (dir : XferDir) (k k' : Nat) (p p' : DataPos) :
    handlerMayStandAt i (.block dir k p) = handlerMayStandAt i (.block dir k' p') := by
  cases i <;> rfl

theorem mayStandAt_bytesIn (i : Instr) (rest rest' : List Byte) (p p' : DataPos) :
    handlerMayStandAt i (.bytesIn rest p) = handlerMayStandAt i (.bytesIn rest' p') := by
  cases i <;> rfl

theorem mayStandAt_bytesOut (i : Instr) (rest rest' : Nat) (q q' : List Byte) (p p' : DataPos) :
    handlerMayStandAt i (.bytesOut rest q p) = handlerMayStandAt i (.bytesOut rest' q' p') := by
  cases i <;> rfl

/-- The positions at which a handler rests between data phases, and its return. -/
inductive Seq.Rests (i : Instr) : Seq → Prop where
  | returned : Seq.Rests i .disp1
  | call (k : Nat) (h : handlerMayStandAt i (.call k) = true) : Seq.Rests i (.handler (.call k))
  | put (q : List Byte) (h : handlerMayStandAt i (.put q) = true) : Seq.Rests i (.handler (.put q))
  | block (dir : XferDir) (k : Nat) (h : handlerMayStandAt i (.block dir k .dp0) = true) :
      Seq.Rests i (.handler (.block dir k .dp0))
  | bytesIn (rest : List Byte) (h : handlerMayStandAt i (.bytesIn rest .dp0) = true) (hne : rest ≠ []) :
      Seq.Rests i (.handler (.bytesIn rest .dp0))

theorem Seq.Rests.phases {i : Instr} {q : Seq} (h : q.Rests i) : q.phases = dispatchPhases := by cases h <;> rfl

theorem Seq.Rests.engine {i : Instr} {q : Seq} (h : q.Rests i) : q.engine = none := by cases h <;> rfl

theorem Seq.Rests.holdsBus {i : Instr} {q : Seq} (h : q.Rests i) : q.holdsBus = some true := by cases h <;> rfl

theorem Seq.Rests.ne_disp {i : Instr} {q : Seq} (h : q.Rests i) : q ≠ .disp := by cases h <;> simp

theorem Seq.Rests.standsSound {i : Instr} {s : State} (h : s.seq.Rests i) : StandsSound i s := by
  intro k hk
  rw [hk] at h
  cases h with
  | call j h => exact ⟨h, trivial⟩
  | put q h => exact ⟨h, trivial⟩
  | block dir j h => exact ⟨h, trivial⟩
  | bytesIn rest h hne => exact ⟨h, hne⟩

/-! ### Frames -/

/-- What no step of SEQ writes (R39, R40). -/
structure SeqOwned (s t : State) : Prop where
  rstPending : t.rstPending = s.rstPending
  cfg : t.cfg = s.cfg
  host : t.host = s.host
  sched : t.sched = s.sched

/-- The bus and the LUN association stay as they are, and the buffer canonical. -/
structure BusStill (s t : State) : Prop extends SeqOwned s t where
  out : t.out = s.out
  dbDir : t.dbDir = s.dbDir
  lunValid : t.lunValid = s.lunValid
  buf : s.bufOk → t.bufOk

/-- And so do the phase and the command. -/
structure Quiet (s t : State) : Prop extends BusStill s t where
  phase : t.phase = s.phase
  cdb : t.cdb = s.cdb

theorem quiet_refl (s : State) : Quiet s s := ⟨⟨⟨rfl, rfl, rfl, rfl⟩, rfl, rfl, rfl, id⟩, rfl, rfl⟩

theorem Quiet.trans {s t u : State} (h : Quiet s t) (k : Quiet t u) : Quiet s u where
  rstPending := k.rstPending.trans h.rstPending
  cfg := k.cfg.trans h.cfg
  host := k.host.trans h.host
  sched := k.sched.trans h.sched
  out := k.out.trans h.out
  dbDir := k.dbDir.trans h.dbDir
  lunValid := k.lunValid.trans h.lunValid
  buf := k.buf ∘ h.buf
  phase := k.phase.trans h.phase
  cdb := k.cdb.trans h.cdb

theorem goto_quiet (q : Seq) (s : State) : Quiet s (goto q s) := ⟨⟨⟨rfl, rfl, rfl, rfl⟩, rfl, rfl, rfl, id⟩, rfl, rfl⟩

theorem emit_quiet (e : DiagEvent) (s : State) : Quiet s (emit e s) :=
  ⟨⟨⟨rfl, rfl, rfl, rfl⟩, rfl, rfl, rfl, id⟩, rfl, rfl⟩

theorem decoded_quiet (s : State) : Quiet s (decoded s) := emit_quiet _ s

theorem afterCall_quiet (c : StoreCall) (s : State) : Quiet s (afterCall c s) :=
  ⟨⟨⟨rfl, rfl, rfl, rfl⟩, rfl, rfl, rfl, id⟩, rfl, rfl⟩

theorem finish_quiet (r : Result) (s : State) : Quiet s (finish r s) :=
  ⟨⟨⟨rfl, rfl, rfl, rfl⟩, rfl, rfl, rfl, id⟩, rfl, rfl⟩

theorem afterReadDataBus_quiet (s : State) : Quiet s (afterReadDataBus s) :=
  ⟨⟨⟨rfl, rfl, rfl, rfl⟩, rfl, rfl, rfl, id⟩, rfl, rfl⟩

theorem setCount_quiet (n : Nat) (s : State) : Quiet s { s with n := n } :=
  ⟨⟨⟨rfl, rfl, rfl, rfl⟩, rfl, rfl, rfl, id⟩, rfl, rfl⟩

/-- A whole block is loaded into the buffer. -/
theorem loadBlock_quiet (bs : List Byte) (h : bs.length = blockSize) (s : State) :
    Quiet s { s with buf := Memory.ofBytes 0 bs } where
  toBusStill := ⟨⟨rfl, rfl, rfl, rfl⟩, rfl, rfl, rfl, fun _ =>
    ⟨Memory.ofBytes_wf 0 bs, fun c hc => by have := (Memory.mem_ofBytes hc).2; omega⟩⟩
  phase := rfl
  cdb := rfl

/-- The handler of `i` goes on, or returns, and leaves the bus alone. -/
structure Rested (i : Instr) (s t : State) : Prop extends Quiet s t where
  rests : t.seq.Rests i

theorem Quiet.rested {i : Instr} {s t u : State} (h : Quiet s t) (k : Rested i t u) : Rested i s u :=
  ⟨h.trans k.toQuiet, k.rests⟩

theorem finishOk_rested (i : Instr) (s : State) : Rested i s (finishOk s) := ⟨finish_quiet _ s, .returned⟩

theorem finishXfail_rested (i : Instr) (s : State) : Rested i s (finishXfail s) := ⟨finish_quiet _ s, .returned⟩

theorem finishStorage_rested (i : Instr) (e : StoreErr) (s : State) : Rested i s (finishStorage e s) :=
  ⟨(emit_quiet _ s).trans (finish_quiet _ _), .returned⟩

theorem finishIllegal_rested (i : Instr) (s : State) : Rested i s (finishIllegal s) :=
  ⟨(emit_quiet _ s).trans (finish_quiet _ _), .returned⟩

theorem goto_rested {i : Instr} {q : Seq} (s : State) (h : q.Rests i) : Rested i s (goto q s) := ⟨goto_quiet q s, h⟩

/-! ### What a step of SEQ does to the lines -/

/-- The steps of SEQ as the lines see them. -/
inductive BusStep (s t : State) : Prop where
  /-- A step outside the handshake that leaves the lines alone. -/
  | still (engine : s.seq.engine = none) (engine' : t.seq.engine = none) (lines : BusStill s t)
      (bus : ∀ b, t.seq.holdsBus = some b → s.seq.holdsBus = some b)
      (free : s.phase ∈ s.seq.phases → t.phase = .busFree → s.phase = .busFree)
  /-- The phase flags of a phase, before its first byte (R157). -/
  | flags (p : Phase) (dir : XferDir) (engine : s.seq.engine = none) (engine' : t.seq.engine = some (dir, hsStart dir))
      (bus : s.seq.holdsBus = some true) (phases : s.seq.phases = [p]) (phase : t.phase = s.phase)
      (out : t.out = (driveFlags (phaseFlags p) s).out) (dbDir : t.dbDir = dirOfIo (phaseFlags p).inputNotOutput)
      (agree : dirOfIo (phaseFlags p).inputNotOutput = busDirOf dir) (lunValid : t.lunValid = s.lunValid)
  /-- A step of the handshake engine: it moves REQ only (R158). -/
  | handshake (dir : XferDir) (w : Hs) (engine : s.seq.engine = some (dir, w))
      (engine' : ∀ d w', t.seq.engine = some (d, w') → d = dir)
      (bus : ∀ b, t.seq.holdsBus = some b → b = true)
      (req : s.out.req = w.holdsReq → t.out.req = t.seq.holdsReq) (bsy : t.out.bsy = s.out.bsy)
      (msg : t.out.msg = s.out.msg) (cd : t.out.cd = s.out.cd) (io : t.out.io = s.out.io) (dbDir : t.dbDir = s.dbDir)
      (lunValid : t.lunValid = s.lunValid) (phase : t.phase = s.phase)
  /-- `SEL1` (R185). -/
  | select (seq : s.seq = .sel1) (seq' : t.seq = .sel2) (out : t.out = { s.out with bsy := true })
      (dbDir : t.dbDir = s.dbDir) (phase : t.phase = s.phase)
  /-- `REL` and `RST1` (R197, R199). -/
  | release (engine : s.seq.engine = none) (engine' : t.seq.engine = none) (bus : t.seq.holdsBus = some false)
      (out : t.out = .released) (dbDir : t.dbDir = .input) (lunValid : t.lunValid = false)

/-- A step of the engine, and what the primitive's caller makes of it without touching the bus. -/
theorem busStep_of_hsStep {dir : XferDir} {bd : Bool} {b : Byte} {w : Hs} {s t u : State}
    (he : s.seq.engine = some (dir, w)) (hu : (hsStep dir bd b w s).state? = some u) (hq : BusStill u t)
    (hp : t.phase = u.phase) (hreq : t.seq.holdsReq = ((hsStep dir bd b w s).next?.map Hs.holdsReq).getD false)
    (he' : ∀ d w', t.seq.engine = some (d, w') → d = dir) (hb : ∀ b, t.seq.holdsBus = some b → b = true) :
    BusStep s t := by
  have hf := hsStep_frame hu
  refine .handshake dir w he he' hb (fun hr => ?_) ?_ ?_ ?_ ?_ (hq.dbDir.trans hf.dbDir)
    (hq.lunValid.trans hf.lunValid) (hp.trans hf.phase)
  · rw [hq.out, hreq, hsStep_req hr hu]
  · rw [hq.out, hf.bsy]
  · rw [hq.out, hf.msg]
  · rw [hq.out, hf.cd]
  · rw [hq.out, hf.io]

/-! ### What a step of a handler does -/

/-- A step of the handler of `i`. -/
structure HandlerStep (i : Instr) (s t : State) : Prop extends SeqOwned s t where
  cdb : t.cdb = s.cdb
  bus : BusStep s t
  phase : s.phase ∈ s.seq.phases → t.phase ∈ t.seq.phases
  buf : s.bufOk → t.bufOk
  stands : StandsSound i s → StandsSound i t
  ne_disp : t.seq ≠ .disp

/-- A step that moves no data and no line. -/
theorem handlerStep_of_rested {i : Instr} {s t : State} (hs : s.seq.BetweenPhases) (h : Rested i s t) :
    HandlerStep i s t where
  toSeqOwned := h.toSeqOwned
  cdb := h.cdb
  bus := .still hs.engine h.rests.engine h.toBusStill (fun b hb => by rw [← hb, hs.holdsBus, h.rests.holdsBus])
    fun _ hp => h.phase ▸ hp
  phase hp := by rw [h.phase, h.rests.phases]; exact hs.phases _ hp
  buf := h.buf
  stands _ := h.rests.standsSound
  ne_disp := h.rests.ne_disp

/-- `DP0`: PB4 (R181). -/
theorem handlerStep_dataBoundary {i : Instr} {s u : State} {dir : XferDir} {k : HandlerPos}
    (hs : s.seq.BetweenPhases) (hu : Quiet s u) (hk : k.data? = some (dir, .dp1))
    (hst : StandsSound i s → handlerMayStandAt i k = true ∧ k.Sound u.n) :
    HandlerStep i s (dataBoundary dir k u) := by
  unfold dataBoundary
  split
  · exact handlerStep_of_rested hs (hu.rested (finishXfail_rested i u))
  · have howned : SeqOwned s (goto (.handler k) (setPhase (phaseOfDir dir) u)) :=
      ⟨hu.rstPending, hu.cfg, hu.host, hu.sched⟩
    refine ⟨howned, hu.cdb, .still hs.engine (engine_of_dp1 hk) ?lines (fun b hb => ?bus) fun _ hp => ?free,
      fun _ => ?phase, hu.buf, fun h j hj => ?stands, by simp⟩
    case lines => exact ⟨howned, hu.out, hu.dbDir, hu.lunValid, hu.buf⟩
    case bus => rw [hs.holdsBus]; exact hb
    case free => cases dir <;> simp [phaseOfDir] at hp
    case phase => simp [phases_of_data hk]
    case stands =>
      obtain rfl : k = j := by simpa using hj
      exact hst h

/-- `DP1`: the phase flags of the direction (R205 to R208). -/
theorem handlerStep_dataFlags {i : Instr} {s u : State} {dir : XferDir} {j k : HandlerPos} (hs : s.seq = .handler j)
    (hj : j.data? = some (dir, .dp1)) (hu : Quiet s u) (hk : k.data? = some (dir, .dp2 (hsStart dir)))
    (hst : StandsSound i s → handlerMayStandAt i k = true ∧ k.Sound u.n) :
    HandlerStep i s (goto (.handler k) (driveFlags (phaseFlags (phaseOfDir dir)) u)) where
  toSeqOwned := ⟨hu.rstPending, hu.cfg, hu.host, hu.sched⟩
  cdb := hu.cdb
  bus := .flags (phaseOfDir dir) dir (hs ▸ engine_of_dp1 hj) (engine_of_dp2 hk) (hs ▸ rfl)
    (hs ▸ phases_of_data hj (by simp)) hu.phase (by simp [hu.out]) rfl (by cases dir <;> rfl) hu.lunValid
  phase hp := by
    rw [hs, phases_of_data hj (by simp)] at hp
    simpa [phases_of_data hk, hu.phase] using hp
  buf := hu.buf
  stands h k' hk' := by
    obtain rfl : k = k' := by simpa using hk'
    exact hst h
  ne_disp := by simp

/-- `DP2`: a step of the engine, after which the handler is still inside the data procedure or rests. -/
theorem handlerStep_of_hsStep {i : Instr} {s t u : State} {dir : XferDir} {bd : Bool} {b : Byte} {w : Hs}
    {j : HandlerPos} (hs : s.seq = .handler j) (hj : j.data? = some (dir, .dp2 w))
    (hu : (hsStep dir bd b w s).state? = some u) (hq : Quiet u t)
    (hreq : t.seq.holdsReq = ((hsStep dir bd b w s).next?.map Hs.holdsReq).getD false)
    (ht : t.seq.Rests i ∨ ∃ k w', t.seq = .handler k ∧ k.data? = some (dir, .dp2 w'))
    (hst : StandsSound i s → StandsSound i t) : HandlerStep i s t := by
  have hf := hsStep_frame hu
  have hdir : ∀ d w', t.seq.engine = some (d, w') → d = dir := by
    intro d w' hd
    obtain h | ⟨k, w₁, hk, hkd⟩ := ht
    · simp [h.engine] at hd
    · rw [hk, engine_of_dp2 hkd] at hd
      simp_all
  have hbus : t.seq.holdsBus = some true := by
    obtain h | ⟨k, w', hk, -⟩ := ht
    · exact h.holdsBus
    · rw [hk]; rfl
  have hp : s.phase ∈ s.seq.phases → t.phase = phaseOfDir dir := by
    rw [hs, phases_of_data hj (by simp), hq.phase, hf.phase]
    exact List.mem_singleton.1
  exact
    { rstPending := hq.rstPending.trans hf.rstPending
      cfg := hq.cfg.trans hf.cfg
      host := hq.host.trans hf.host
      sched := hq.sched.trans hf.sched
      cdb := hq.cdb.trans hf.cdb
      bus := busStep_of_hsStep (hs ▸ engine_of_dp2 hj) hu hq.toBusStill hq.phase hreq hdir fun b hb => by
        simpa [hbus, eq_comm] using hb
      phase := fun h => by
        rw [hp h]
        obtain h | ⟨k, w', hk, hkd⟩ := ht
        · rw [h.phases]; cases dir <;> simp [phaseOfDir, dispatchPhases]
        · simp [hk, phases_of_data hkd]
      buf := fun h => hq.buf (by unfold State.bufOk; rw [hf.buf]; exact h)
      stands := hst
      ne_disp := by
        obtain h | ⟨k, w', hk, -⟩ := ht
        · exact h.ne_disp
        · simp [hk] }

/-- The byte goes on. -/
theorem handlerStep_of_more {i : Instr} {s u : State} {dir : XferDir} {bd : Bool} {b : Byte} {w w' : Hs}
    {j k : HandlerPos} (hs : s.seq = .handler j) (hj : j.data? = some (dir, .dp2 w))
    (hu : hsStep dir bd b w s = .more w' u) (hk : k.data? = some (dir, .dp2 w'))
    (hst : handlerMayStandAt i j = true ∧ j.Sound s.n → handlerMayStandAt i k = true ∧ k.Sound s.n) :
    HandlerStep i s (goto (.handler k) u) := by
  have hu' : (hsStep dir bd b w s).state? = some u := by rw [hu]; rfl
  refine handlerStep_of_hsStep hs hj hu' (goto_quiet _ u) ?_ (.inr ⟨k, w', rfl, hk⟩) fun h k' hk' => ?_
  · simp [hu, HsOut.next?, holdsReq_of_engine (engine_of_dp2 hk)]
  · obtain rfl : k = k' := by simpa using hk'
    rw [goto_n, (hsStep_frame hu').n]
    exact hst (h j hs)

/-- The byte is over and the next one begins. -/
theorem handlerStep_of_restart {i : Instr} {s t u : State} {dir : XferDir} {bd : Bool} {b c : Byte} {w : Hs}
    {j k : HandlerPos} (hs : s.seq = .handler j) (hj : j.data? = some (dir, .dp2 w))
    (hu : hsStep dir bd b w s = .done c u) (hq : Quiet u t) (ht : t.seq = .handler k)
    (hk : k.data? = some (dir, .dp2 (hsStart dir)))
    (hst : handlerMayStandAt i j = true ∧ j.Sound s.n → handlerMayStandAt i k = true ∧ k.Sound t.n) :
    HandlerStep i s t := by
  refine handlerStep_of_hsStep hs hj (by rw [hu]; rfl) hq ?_ (.inr ⟨k, hsStart dir, ht, hk⟩) fun h k' hk' => ?_
  · simp [hu, HsOut.next?, ht, holdsReq_of_engine (engine_of_dp2 hk)]
  · obtain rfl : k = k' := by simpa [ht] using hk'
    exact hst (h j hs)

/-- The data procedure is over: its last byte is done, or a byte failed. -/
theorem handlerStep_of_over {i : Instr} {s t u : State} {dir : XferDir} {bd : Bool} {b : Byte} {w : Hs}
    {j : HandlerPos} (hs : s.seq = .handler j) (hj : j.data? = some (dir, .dp2 w))
    (hu : (∃ c, hsStep dir bd b w s = .done c u) ∨ hsStep dir bd b w s = .failed u) (ht : Rested i u t) :
    HandlerStep i s t := by
  have hout : (hsStep dir bd b w s).state? = some u ∧ (hsStep dir bd b w s).next? = none := by
    obtain ⟨c, hu⟩ | hu := hu <;> rw [hu] <;> exact ⟨rfl, rfl⟩
  obtain ⟨hstate, hnext⟩ := hout
  refine handlerStep_of_hsStep hs hj hstate ht.toQuiet ?_ (.inl ht.rests) fun _ => ht.rests.standsSound
  simp [hnext, holdsReq_of_engine_none ht.rests.engine]

/-! ### The data procedures -/

/-- A byte of a block that is not its last: the array write and the count (R155). -/
theorem byteDone_more {dir : XferDir} {b : Byte} {u v : State} {w : Hs} (hn : u.n < blockSize)
    (h : byteDone dir b u = .more w v) : w = hsStart dir ∧ v.n < blockSize ∧ Quiet u v := by
  obtain ⟨m, hm, ⟨-, hc⟩ | ⟨hne, hc⟩⟩ := byteDone_cases dir b u
  · simp [hc] at h
  · obtain ⟨rfl, rfl⟩ : hsStart dir = w ∧ { u with buf := m, n := u.n + 1 } = v := by simpa [hc] using h
    refine ⟨rfl, show u.n + 1 < blockSize by omega, ⟨⟨rfl, rfl, rfl, rfl⟩, rfl, rfl, rfl, fun hb => ?_⟩, rfl, rfl⟩
    obtain ⟨hwf, hlt⟩ := hb
    obtain rfl | rfl := hm
    · exact ⟨hwf, hlt⟩
    · exact ⟨Memory.write_wf _ b hwf, Memory.write_bound b hlt hn⟩

/-- The last byte of a block: the array write, the count and the event of R300. -/
theorem byteDone_full {dir : XferDir} {b : Byte} {u v : State} (hn : u.n < blockSize)
    (h : byteDone dir b u = .full v) : Quiet u v := by
  obtain ⟨m, hm, ⟨-, hc⟩ | ⟨-, hc⟩⟩ := byteDone_cases dir b u
  · obtain rfl : emit (.blockMoved dir (u.n + 1)) { u with buf := m, n := u.n + 1 } = v := by simpa [hc] using h
    refine ⟨⟨⟨rfl, rfl, rfl, rfl⟩, rfl, rfl, rfl, fun hb => ?_⟩, rfl, rfl⟩
    obtain ⟨hwf, hlt⟩ := hb
    obtain rfl | rfl := hm
    · exact ⟨hwf, hlt⟩
    · exact ⟨Memory.write_wf _ b hwf, Memory.write_bound b hlt hn⟩
  · simp [hc] at h

/-- `dataInBlock` and `dataOutBlock` (R205, R206). -/
theorem handlerStep_blockPhase {i : Instr} {dir : XferDir} {k : Nat} {p : DataPos} {onFull : State → State}
    {s t : State} (hs : s.seq = .handler (.block dir k p)) (hfull : ∀ u, Rested i u (onFull u))
    (h : blockPhase dir k p onFull s = .next t) : HandlerStep i s t := by
  obtain ⟨rfl, rfl⟩ | ⟨rfl, -, rfl⟩ | ⟨w, rfl, hn, hc⟩ := blockPhase_cases h
  · refine handlerStep_dataBoundary (hs ▸ dp0_between rfl) (quiet_refl s) rfl fun hst => ?_
    exact ⟨mayStandAt_block i dir k k .dp0 .dp1 ▸ (hst _ hs).1, trivial⟩
  · refine handlerStep_dataFlags hs rfl (setCount_quiet 0 s) rfl fun hst => ?_
    exact ⟨mayStandAt_block i dir k k .dp1 _ ▸ (hst _ hs).1, show 0 < blockSize by decide⟩
  · obtain ⟨w', u, hu, rfl⟩ | ⟨b, u, w', v, hu, hb, rfl⟩ | ⟨b, u, v, hu, hb, rfl⟩ | ⟨u, hu, rfl⟩ := hc
    · exact handlerStep_of_more hs rfl hu rfl id
    · have hun : u.n = s.n := (hsStep_frame (t := u) (by rw [hu]; rfl)).n
      obtain ⟨rfl, hvn, hq⟩ := byteDone_more (hun ▸ hn) hb
      refine handlerStep_of_restart hs rfl hu (hq.trans (goto_quiet _ v)) rfl rfl fun hst => ?_
      exact ⟨mayStandAt_block i dir k k _ _ ▸ hst.1, hvn⟩
    · have hun : u.n = s.n := (hsStep_frame (t := u) (by rw [hu]; rfl)).n
      exact handlerStep_of_over hs rfl (.inl ⟨b, hu⟩) ((byteDone_full (hun ▸ hn) hb).rested (hfull v))
    · exact handlerStep_of_over hs rfl (.inr hu) ((emit_quiet _ u).rested (finishXfail_rested i _))

/-- `dataInBytes` (R207). -/
theorem handlerStep_bytesInPhase {i : Instr} {rest : List Byte} {p : DataPos} {s t : State}
    (hs : s.seq = .handler (.bytesIn rest p)) (h : bytesInPhase rest p s = .next t) : HandlerStep i s t := by
  obtain ⟨rfl, rfl⟩ | ⟨rfl, -, rfl⟩ | ⟨w, b, bs, rfl, rfl, hc⟩ := bytesInPhase_cases h
  · exact handlerStep_dataBoundary (hs ▸ dp0_between rfl) (quiet_refl s) rfl fun hst =>
      ⟨mayStandAt_bytesIn i rest rest .dp0 .dp1 ▸ (hst _ hs).1, (hst _ hs).2⟩
  · exact handlerStep_dataFlags hs rfl (quiet_refl s) rfl fun hst =>
      ⟨mayStandAt_bytesIn i rest rest .dp1 _ ▸ (hst _ hs).1, (hst _ hs).2⟩
  · obtain ⟨w', u, hu, rfl⟩ | ⟨c, u, hu, rfl⟩ | ⟨u, hu, rfl⟩ := hc
    · exact handlerStep_of_more hs rfl hu rfl fun hst => ⟨mayStandAt_bytesIn i _ _ (.dp2 w) _ ▸ hst.1, hst.2⟩
    · cases bs with
      | nil => exact handlerStep_of_over hs rfl (.inl ⟨c, hu⟩) (finishOk_rested i u)
      | cons b' bs =>
        refine handlerStep_of_restart hs rfl hu (goto_quiet _ u) rfl rfl fun hst => ?_
        exact ⟨mayStandAt_bytesIn i (b :: b' :: bs) _ (.dp2 w) _ ▸ hst.1, List.cons_ne_nil b' bs⟩
    · exact handlerStep_of_over hs rfl (.inr hu) (finishXfail_rested i u)

/-- `dataOutBytes` (R208), of a handler that then stands before its `metaPut`. -/
theorem handlerStep_bytesOutPhase {i : Instr} {rest : Nat} {q : List Byte} {p : DataPos} {s t : State}
    (hs : s.seq = .handler (.bytesOut rest q p)) (hput : ∀ q, handlerMayStandAt i (.put q) = true)
    (h : bytesOutPhase rest q p s = .next t) : HandlerStep i s t := by
  obtain ⟨rfl, rfl⟩ | ⟨rfl, -, rfl⟩ | ⟨w, r, rfl, rfl, hc⟩ := bytesOutPhase_cases h
  · exact handlerStep_dataBoundary (hs ▸ dp0_between rfl) (quiet_refl s) rfl fun hst =>
      ⟨mayStandAt_bytesOut i rest rest q q .dp0 .dp1 ▸ (hst _ hs).1, (hst _ hs).2⟩
  · exact handlerStep_dataFlags hs rfl (quiet_refl s) rfl fun hst =>
      ⟨mayStandAt_bytesOut i rest rest q q .dp1 _ ▸ (hst _ hs).1, (hst _ hs).2⟩
  · obtain ⟨w', u, hu, rfl⟩ | ⟨b, u, hu, rfl⟩ | ⟨u, hu, rfl⟩ := hc
    · exact handlerStep_of_more hs rfl hu rfl fun hst => ⟨mayStandAt_bytesOut i _ _ q q (.dp2 w) _ ▸ hst.1, hst.2⟩
    · cases r with
      | zero => exact handlerStep_of_over hs rfl (.inl ⟨b, hu⟩) (goto_rested u (.put _ (hput _)))
      | succ r =>
        refine handlerStep_of_restart hs rfl hu (goto_quiet _ u) rfl rfl fun hst => ?_
        exact ⟨mayStandAt_bytesOut i (r + 1 + 1) _ q _ (.dp2 w) _ ▸ hst.1, Nat.succ_ne_zero r⟩
    · exact handlerStep_of_over hs rfl (.inr hu) (finishXfail_rested i u)

/-! ### The steps of the handlers that call STORE -/

theorem readinessCall_rested (i : Instr) (s : State) : Rested i s (readinessCall s) := by
  rw [readinessCall_eq]
  split
  · exact (afterCall_quiet _ s).rested (finishOk_rested i _)
  · exact (afterCall_quiet _ s).rested (finishStorage_rested i _ _)

theorem metaPutCall_rested (i : Instr) (kind : MetaKind) (bs : List Byte) (s : State) :
    Rested i s (metaPutCall kind bs s) := by
  rw [metaPutCall_eq]
  split
  · exact (afterCall_quiet _ s).rested (finishStorage_rested i _ _)
  · exact (afterCall_quiet _ s).rested (finishOk_rested i _)

theorem startBytesIn_rested {i : Instr} (hi : ∀ rest, handlerMayStandAt i (.bytesIn rest .dp0) = true)
    (bs : List Byte) (s : State) : Rested i s (startBytesIn bs s) := by
  cases bs with
  | nil => exact finishOk_rested i s
  | cons b bs => exact goto_rested s (.bytesIn _ (hi _) (List.cons_ne_nil b bs))

theorem metaGetBytes_rested {i : Instr} (hi : ∀ rest, handlerMayStandAt i (.bytesIn rest .dp0) = true)
    (kind : MetaKind) (cut : List Byte → List Byte) (s : State) : Rested i s (metaGetBytes kind cut s) := by
  simp only [metaGetBytes]
  split
  · exact (afterCall_quiet _ s).rested (finishStorage_rested i _ _)
  · exact (afterCall_quiet _ s).rested (startBytesIn_rested hi _ _)

/-- VERIFY loads a block where the implementation does (R239). -/
theorem loadIf_quiet (fill : Bool) (bs : List Byte) (h : bs.length = blockSize) (s : State) :
    Quiet s { s with buf := if fill then Memory.ofBytes 0 bs else s.buf } := by
  cases fill with
  | false => exact quiet_refl s
  | true => exact loadBlock_quiet bs h s

theorem verifyBlock_rested (f : Fields) (k : Nat) (s : State) : Rested (.verify f) s (verifyBlock f k s) := by
  rw [verifyBlock_eq]
  split
  · exact (afterCall_quiet _ s).rested (finishStorage_rested _ _ _)
  · have hu := (afterCall_quiet (.readSector s.curLun (blockAddr f k)) s).trans
      (loadIf_quiet s.cfg.verifyFillsBuf (nextAnswer s).block.toList (by simp) _)
    dsimp only
    split
    · exact hu.rested (goto_rested _ (.call _ rfl))
    · exact hu.rested (finishOk_rested _ _)

theorem read6Fetch_rested (f : Fields) (k : Nat) (s : State) : Rested (.read6 f) s (read6Fetch f k s) := by
  rw [read6Fetch_eq]
  split
  · exact (afterCall_quiet _ s).rested (finishStorage_rested _ _ _)
  · exact ((afterCall_quiet _ s).trans (loadBlock_quiet _ (by simp) _)).rested (goto_rested _ (.block _ _ rfl))

theorem read6Sent_rested (f : Fields) (k : Nat) (s : State) : Rested (.read6 f) s (read6Sent f k s) := by
  unfold read6Sent
  split
  · exact goto_rested s (.call _ rfl)
  · exact finishOk_rested _ s

theorem write6Store_rested (f : Fields) (k : Nat) (s : State) : Rested (.write6 f) s (write6Store f k s) := by
  unfold write6Store onStored
  split
  · exact (afterCall_quiet _ s).rested (finishStorage_rested _ _ _)
  · dsimp only
    split
    · exact (afterCall_quiet _ s).rested (goto_rested _ (.block _ _ rfl))
    · exact (afterCall_quiet _ s).rested (finishOk_rested _ _)

theorem vendorFetch_rested {i : Instr} (hi : ∀ k, handlerMayStandAt i (.block .toHost k .dp0) = true)
    (kind : MetaKind) (s : State) : Rested i s (vendorFetch kind s) := by
  simp only [vendorFetch]
  split
  · exact (afterCall_quiet _ s).rested (finishStorage_rested i _ _)
  · exact ((afterCall_quiet _ s).trans (loadBlock_quiet _ (padBlock_length _) _)).rested
      (goto_rested _ (.block _ _ (hi 0)))

/-! ### The bodies of the handlers -/

/-- The first step of a handler, at `SQ_DISPATCH`, that leaves the bus alone. -/
theorem handlerStep_first {i : Instr} {s t : State} (hs : s.seq = .disp) (h : Rested i (decoded s) t) :
    HandlerStep i s t :=
  handlerStep_of_rested (hs ▸ disp_between) ((decoded_quiet s).rested h)

/-- The first step of a handler that asks for a block at once. -/
theorem handlerStep_firstBlock {i : Instr} {s t : State} {onFull : State → State} (hs : s.seq = .disp)
    (hi : handlerMayStandAt i (.block .fromHost 0 .dp1) = true)
    (h : blockPhase .fromHost 0 .dp0 onFull (decoded s) = .next t) : HandlerStep i s t := by
  obtain rfl : dataBoundary .fromHost (.block .fromHost 0 .dp1) (decoded s) = t := by simpa [blockPhase] using h
  exact handlerStep_dataBoundary (hs ▸ disp_between) (decoded_quiet s) rfl fun _ => ⟨hi, trivial⟩

/-- The first step of a handler that sends a byte string at once. -/
theorem handlerStep_firstBytesIn {i : Instr} {s t : State} {bs : List Byte} (hs : s.seq = .disp)
    (hi : handlerMayStandAt i (.bytesIn bs .dp1) = true)
    (h : firstBytesIn bs (decoded s) = .next t) : HandlerStep i s t := by
  cases bs with
  | nil =>
    obtain rfl : finishOk (decoded s) = t := by simpa [firstBytesIn] using h
    exact handlerStep_first hs (finishOk_rested i _)
  | cons b bs =>
    obtain rfl : dataBoundary .toHost (.bytesIn (b :: bs) .dp1) (decoded s) = t := by simpa [firstBytesIn] using h
    exact handlerStep_dataBoundary (hs ▸ disp_between) (decoded_quiet s) rfl fun _ => ⟨hi, List.cons_ne_nil b bs⟩

theorem handlerStep_readinessCheck {i : Instr} {s t : State} (h : readinessCheck s = .next t) :
    HandlerStep i s t := by
  unfold readinessCheck at h
  split at h
  case h_1 hs =>
    cases h
    exact handlerStep_first hs (readinessCall_rested i _)
  case h_2 => cases h

theorem handlerStep_metaCommand {i : Instr} {kind : MetaKind} {s t : State} (h : metaCommand kind s = .next t) :
    HandlerStep i s t := by
  unfold metaCommand at h
  split at h
  case h_1 hs =>
    cases h
    exact handlerStep_first hs (metaPutCall_rested i kind [] _)
  case h_2 => cases h

theorem handlerStep_vendorIn {i : Instr} {kind : MetaKind} {s t : State}
    (hi : ∀ k, handlerMayStandAt i (.block .toHost k .dp0) = true) (h : vendorIn kind s = .next t) :
    HandlerStep i s t := by
  unfold vendorIn at h
  split at h
  case h_1 hs =>
    cases h
    exact handlerStep_first hs (vendorFetch_rested hi kind _)
  case h_2 k p hs => exact handlerStep_blockPhase hs (finishOk_rested i) h
  case h_3 => cases h

theorem handlerStep_vendorOut {i : Instr} {kind : MetaKind} {s t : State}
    (hi : ∀ p, handlerMayStandAt i (.block .fromHost 0 p) = true)
    (hcall : ∀ k, handlerMayStandAt i (.call k) = true) (h : vendorOut kind s = .next t) : HandlerStep i s t := by
  unfold vendorOut at h
  split at h
  case h_1 hs => exact handlerStep_firstBlock hs (hi .dp1) h
  case h_2 k p hs => exact handlerStep_blockPhase hs (fun u => goto_rested u (.call k (hcall k))) h
  case h_3 k hs =>
    cases h
    exact handlerStep_of_rested (hs ▸ call_between k) (metaPutCall_rested i kind _ s)
  case h_4 => cases h

theorem handlerStep_execRead6 {f : Fields} {s t : State} (h : execRead6 f s = .next t) :
    HandlerStep (.read6 f) s t := by
  unfold execRead6 at h
  split at h
  case h_1 hs =>
    cases h
    exact handlerStep_first hs (read6Fetch_rested f 0 _)
  case h_2 k hs =>
    cases h
    exact handlerStep_of_rested (hs ▸ call_between k) (read6Fetch_rested f k s)
  case h_3 k p hs => exact handlerStep_blockPhase hs (read6Sent_rested f k) h
  case h_4 => cases h

theorem handlerStep_execWrite6 {f : Fields} {s t : State} (h : execWrite6 f s = .next t) :
    HandlerStep (.write6 f) s t := by
  unfold execWrite6 at h
  split at h
  case h_1 hs => exact handlerStep_firstBlock hs rfl h
  case h_2 k p hs => exact handlerStep_blockPhase hs (fun u => goto_rested u (.call k rfl)) h
  case h_3 k hs =>
    cases h
    exact handlerStep_of_rested (hs ▸ call_between k) (write6Store_rested f k s)
  case h_4 => cases h

theorem handlerStep_execVerify {f : Fields} {s t : State} (h : execVerify f s = .next t) :
    HandlerStep (.verify f) s t := by
  unfold execVerify at h
  split at h
  case h_1 hs =>
    cases h
    exact handlerStep_first hs (verifyBlock_rested f 0 _)
  case h_2 k hs =>
    cases h
    exact handlerStep_of_rested (hs ▸ call_between k) (verifyBlock_rested f k s)
  case h_3 => cases h

theorem handlerStep_execIllegal {op : Byte} {f : Fields} {s t : State} (h : execIllegal op f s = .next t) :
    HandlerStep (.illegal op f) s t := by
  unfold execIllegal at h
  split at h
  case h_1 hs =>
    cases h
    exact handlerStep_first hs (finishIllegal_rested _ _)
  case h_2 => cases h

theorem handlerStep_execRequestSense {f : Fields} {s t : State} (h : execRequestSense f s = .next t) :
    HandlerStep (.requestSense f) s t := by
  unfold execRequestSense at h
  split at h
  case h_1 hs => exact handlerStep_firstBytesIn hs rfl h
  case h_2 rest p hs => exact handlerStep_bytesInPhase hs h
  case h_3 => cases h

theorem handlerStep_execInquiry {f : Fields} {s t : State} (h : execInquiry f s = .next t) :
    HandlerStep (.inquiry f) s t := by
  unfold execInquiry at h
  split at h
  case h_1 hs => exact handlerStep_firstBytesIn hs rfl h
  case h_2 rest p hs => exact handlerStep_bytesInPhase hs h
  case h_3 => cases h

theorem handlerStep_execTranslate {f : Fields} {s t : State} (h : execTranslate f s = .next t) :
    HandlerStep (.translate f) s t := by
  unfold execTranslate at h
  split at h
  case h_1 hs =>
    cases h
    exact handlerStep_first hs (metaGetBytes_rested (fun _ => rfl) _ _ _)
  case h_2 rest p hs => exact handlerStep_bytesInPhase hs h
  case h_3 => cases h

theorem handlerStep_execModeSense {f : Fields} {s t : State} (h : execModeSense f s = .next t) :
    HandlerStep (.modeSense f) s t := by
  unfold execModeSense at h
  split at h
  case h_1 hs =>
    cases h
    exact handlerStep_first hs (metaGetBytes_rested (fun _ => rfl) _ _ _)
  case h_2 rest p hs => exact handlerStep_bytesInPhase hs h
  case h_3 => cases h

theorem handlerStep_execModeSelect {f : Fields} {s t : State} (h : execModeSelect f s = .next t) :
    HandlerStep (.modeSelect f) s t := by
  unfold execModeSelect at h
  split at h
  case h_1 hs =>
    split at h
    · cases h
      exact handlerStep_first hs (metaPutCall_rested _ _ _ _)
    · next hlen =>
      obtain rfl : dataBoundary .fromHost (.bytesOut (parameterLength f) [] .dp1) (decoded s) = t := by
        simpa [bytesOutPhase] using h
      exact handlerStep_dataBoundary (hs ▸ disp_between) (decoded_quiet s) rfl fun _ => ⟨rfl, hlen⟩
  case h_2 rest q p hs => exact handlerStep_bytesOutPhase hs (fun _ => rfl) h
  case h_3 q hs =>
    cases h
    exact handlerStep_of_rested (hs ▸ put_between q) (metaPutCall_rested _ _ q s)
  case h_4 => cases h

/-- Every command's step, whichever position it is taken at. -/
theorem exec_handlerStep {i : Instr} {s t : State} (h : exec i s = .next t) : HandlerStep i s t := by
  cases i with
  | testUnitReady f => exact handlerStep_readinessCheck h
  | rezeroUnit f => exact handlerStep_readinessCheck h
  | requestSense f => exact handlerStep_execRequestSense h
  | format f => exact handlerStep_metaCommand (kind := .format) h
  | read6 f => exact handlerStep_execRead6 h
  | write6 f => exact handlerStep_execWrite6 h
  | seek f => exact handlerStep_readinessCheck h
  | translate f => exact handlerStep_execTranslate h
  | inquiry f => exact handlerStep_execInquiry h
  | modeSelect f => exact handlerStep_execModeSelect h
  | modeSense f => exact handlerStep_execModeSense h
  | startStop f => exact handlerStep_metaCommand (kind := .startStop) h
  | verify f => exact handlerStep_execVerify h
  | select f => exact handlerStep_metaCommand (kind := .select) h
  | fcodeRead f => exact handlerStep_vendorIn (kind := .fcode) (fun _ => rfl) h
  | fcodeWrite f => exact handlerStep_vendorOut (kind := .fcode) (fun _ => rfl) (fun _ => rfl) h
  | vSense f => exact handlerStep_vendorIn (kind := .vSense) (fun _ => rfl) h
  | vSelect f => exact handlerStep_vendorOut (kind := .vSelect) (fun _ => rfl) (fun _ => rfl) h
  | vPath f => exact handlerStep_vendorOut (kind := .vPath) (fun _ => rfl) (fun _ => rfl) h
  | vInfo f => exact handlerStep_vendorIn (kind := .vInfo) (fun _ => rfl) h
  | vRead f => exact handlerStep_vendorIn (kind := .vRead) (fun _ => rfl) h
  | illegal op f => exact handlerStep_execIllegal h

/-! ### What a step of SEQ does -/

/-- A step of SEQ, at any label of R201. -/
structure SeqStep (s t : State) : Prop extends SeqOwned s t where
  bus : BusStep s t
  phase : s.phase ∈ s.seq.phases → t.phase ∈ t.seq.phases
  buf : s.bufOk → t.bufOk
  inDispatch : s.InDispatchOk → t.InDispatchOk

/-- Inside `dispatch`: the step of the fetched command's handler (R188, R220). -/
theorem seqStep_of_exec {s t : State} (h : exec (fetched s) s = .next t) : SeqStep s t := by
  have hs := exec_handlerStep h
  have hfetch : fetched t = fetched s := by simp only [fetched, hs.cdb, hs.cfg]
  exact ⟨hs.toSeqOwned, hs.bus, hs.phase, hs.buf, fun ok =>
    ⟨by rw [hfetch]; exact hs.stands ok.stands, fun hd => absurd hd hs.ne_disp⟩⟩

/-- A step that leaves the lines alone, and may write the phase. -/
theorem seqStep_of_still {s t : State} (he : s.seq.engine = none) (he' : t.seq.engine = none) (h : BusStill s t)
    (hb : ∀ b, t.seq.holdsBus = some b → s.seq.holdsBus = some b)
    (hp : s.phase ∈ s.seq.phases → t.phase ∈ t.seq.phases ∧ (t.phase = .busFree → s.phase = .busFree))
    (hd : t.InDispatchOk) : SeqStep s t :=
  ⟨h.toSeqOwned, .still he he' h hb fun h => (hp h).2, fun h => (hp h).1, h.buf, fun _ => hd⟩

/-- Reset handling may follow wherever SEQ stands (R181, R202). -/
theorem mem_phases_rst1 {q : Seq} {p : Phase} (h : p ∈ q.phases) : p ∈ Seq.rst1.phases := by
  have hne : Phase.messageOut ∉ q.phases := by
    cases q with
    | handler k =>
      cases hk : k.data? with
      | none => cases k <;> simp_all [HandlerPos.data?, Seq.phases, HandlerPos.phases, dispatchPhases]
      | some d =>
        obtain ⟨dir, p⟩ := d
        by_cases hp : p = .dp0
        · subst hp
          intro hm
          simpa [dispatchPhases] using (dp0_between hk).phases _ hm
        · rw [phases_of_data hk hp]
          cases dir <;> simp [phaseOfDir]
    | _ => simp [Seq.phases, dispatchPhases]
  cases p <;> simp_all [Seq.phases]

/-- `goto RESET` at a boundary. -/
theorem seqStep_gotoReset {s u : State} (he : s.seq.engine = none) (hu : Quiet s u) : SeqStep s (gotoReset u) := by
  have hq := hu.trans (goto_quiet .rst1 u)
  refine seqStep_of_still he rfl hq.toBusStill (fun b hb => by simp [Seq.holdsBus] at hb) (fun hp => ?_)
    (inDispatchOk_of_outside (by simp) (by simp))
  exact ⟨by rw [gotoReset_phase, hu.phase]; exact mem_phases_rst1 hp, fun h => hq.phase ▸ h⟩

/-- A boundary: Reset handling, or what follows (R181). -/
theorem seqStep_boundary {s u : State} {k : State → State} (he : s.seq.engine = none) (hu : Quiet s u)
    (hk : SeqStep s (k u)) : SeqStep s (boundary k u) := by
  unfold boundary
  split
  · exact seqStep_gotoReset he hu
  · exact hk

theorem busFreePoll_seqStep {s : State} (hs : s.seq = .bf1) : SeqStep s (busFreePoll s) := by
  have hq := afterReadDataBus_quiet s
  refine seqStep_boundary (hs ▸ rfl) hq ?_
  split
  · refine seqStep_of_still (hs ▸ rfl) rfl ⟨⟨rfl, rfl, rfl, rfl⟩, rfl, rfl, rfl, id⟩ ?_ ?_
      (inDispatchOk_of_outside (by simp) (by simp))
    · simp [hs, Seq.holdsBus]
    · simp [Seq.phases]
  · refine seqStep_of_still (hs ▸ rfl) (by simp [hs, Seq.engine]) hq.toBusStill ?_ (fun hp => ⟨hp, id⟩)
      (inDispatchOk_of_outside (by simp [hs]) (by simp [hs]))
    simp

theorem selectStart_seqStep {s : State} (hs : s.seq = .sel1) : SeqStep s (selectStart s) where
  toSeqOwned := ⟨rfl, rfl, rfl, rfl⟩
  bus := .select hs rfl rfl rfl rfl
  phase hp := by simpa [hs, Seq.phases] using hp
  buf := id
  inDispatch _ := inDispatchOk_of_outside (by simp) (by simp)

theorem selectValidate_seqStep {s : State} (hs : s.seq = .sel2) : SeqStep s (selectValidate s) :=
  seqStep_of_still (hs ▸ rfl) rfl ⟨⟨rfl, rfl, rfl, rfl⟩, rfl, rfl, rfl, id⟩ (by simp [hs, Seq.holdsBus])
    (by simp +contextual [hs, Seq.phases]) (inDispatchOk_of_outside (by simp) (by simp))

theorem selectDone_seqStep {s : State} {present : Bool} (hs : s.seq = .sel3 present) :
    SeqStep s (selectDone present s) := by
  refine seqStep_boundary (hs ▸ rfl) (quiet_refl s) ?_
  cases present with
  | false =>
    exact seqStep_of_still (hs ▸ rfl) rfl ⟨⟨rfl, rfl, rfl, rfl⟩, rfl, rfl, rfl, id⟩ (by simp [hs, Seq.holdsBus])
      (by simp [Seq.phases]) (inDispatchOk_of_outside (by simp) (by simp))
  | true =>
    exact seqStep_of_still (hs ▸ rfl) rfl ⟨⟨rfl, rfl, rfl, rfl⟩, rfl, rfl, rfl, id⟩ (by simp [hs, Seq.holdsBus])
      (by simp [Seq.phases]) (inDispatchOk_of_outside (by simp) (by simp))

/-- The phase flags of the sequencer's own phases (R187, R192, R194). -/
theorem phaseStart_seqStep {s t : State} {p : Phase} {q : Seq} {dir : XferDir} (he : s.seq.engine = none)
    (hb : s.seq.holdsBus = some true) (hp : s.seq.phases = [p]) (he' : q.engine = some (dir, hsStart dir))
    (hp' : q.phases = [p]) (hdir : dirOfIo (phaseFlags p).inputNotOutput = busDirOf dir) (hd : q ≠ .disp)
    (hh : ∀ k, q ≠ .handler k) (h : phaseStart p q s = .next t) : SeqStep s t := by
  have hr : s.out.req ≠ true := fun hr => by simp [phaseStart, setDataPhaseFlags, andThen, hr] at h
  obtain rfl : goto q (driveFlags (phaseFlags p) s) = t := by
    simpa [phaseStart, setDataPhaseFlags, andThen, hr] using h
  exact ⟨⟨rfl, rfl, rfl, rfl⟩, .flags p dir he he' hb hp rfl rfl rfl hdir rfl,
    fun h => by rw [goto_seq, hp']; rwa [hp] at h, id, fun _ => inDispatchOk_of_outside hd hh⟩

/-- A step of the engine in the sequencer's own `readByte` and `writeByte`. -/
theorem seqStep_of_hsStep {s t u : State} {dir : XferDir} {bd : Bool} {b : Byte} {w : Hs}
    (he : s.seq.engine = some (dir, w)) (hu : (hsStep dir bd b w s).state? = some u) (hq : BusStill u t)
    (hph : t.phase = u.phase) (hreq : t.seq.holdsReq = ((hsStep dir bd b w s).next?.map Hs.holdsReq).getD false)
    (he' : ∀ d w', t.seq.engine = some (d, w') → d = dir) (hb : ∀ b, t.seq.holdsBus = some b → b = true)
    (hp : s.phase ∈ s.seq.phases → s.phase ∈ t.seq.phases) (hd : t.seq ≠ .disp) (hh : ∀ k, t.seq ≠ .handler k) :
    SeqStep s t := by
  have hf := hsStep_frame hu
  exact
    { rstPending := hq.rstPending.trans hf.rstPending
      cfg := hq.cfg.trans hf.cfg
      host := hq.host.trans hf.host
      sched := hq.sched.trans hf.sched
      bus := busStep_of_hsStep he hu hq hph hreq he' hb
      phase := fun h => by rw [hph, hf.phase]; exact hp h
      buf := fun h => hq.buf (by unfold State.bufOk; rw [hf.buf]; exact h)
      inDispatch := fun _ => inDispatchOk_of_outside hd hh }

/-- The byte goes on. -/
theorem seqStep_of_more {s u : State} {q : Seq} {dir : XferDir} {bd : Bool} {b : Byte} {w w' : Hs}
    (he : s.seq.engine = some (dir, w)) (hu : hsStep dir bd b w s = .more w' u) (he' : q.engine = some (dir, w'))
    (hp : s.seq.phases = q.phases) (hd : q ≠ .disp) (hh : ∀ k, q ≠ .handler k) : SeqStep s (goto q u) := by
  have hq := goto_quiet q u
  refine seqStep_of_hsStep he (by rw [hu]; rfl) hq.toBusStill rfl ?_ ?_ ?_ (fun h => hp ▸ h) hd hh
  · simp [hu, HsOut.next?, holdsReq_of_engine he']
  · simp +contextual [he']
  · simp [holdsBus_of_engine he']

/-- The byte is over, and the sequencer takes what it brought without touching the bus. -/
theorem seqStep_of_done {s t u : State} {dir : XferDir} {bd : Bool} {b c : Byte} {w : Hs}
    (he : s.seq.engine = some (dir, w)) (hu : hsStep dir bd b w s = .done c u) (hq : BusStill u t)
    (hph : t.phase = u.phase) (hreq : t.seq.holdsReq = false)
    (he' : ∀ d w', t.seq.engine = some (d, w') → d = dir) (hb : t.seq.holdsBus = some true)
    (hp : s.seq.phases = t.seq.phases) (hd : t.seq ≠ .disp) (hh : ∀ k, t.seq ≠ .handler k) : SeqStep s t := by
  refine seqStep_of_hsStep he (by rw [hu]; rfl) hq hph ?_ he' ?_ (fun h => hp ▸ h) hd hh
  · simp [hu, HsOut.next?, hreq]
  · simp [hb]

/-- A byte that fails goes to Reset handling at once (R182). -/
theorem seqStep_of_failed {s u : State} {dir : XferDir} {bd : Bool} {b : Byte} {w : Hs}
    (he : s.seq.engine = some (dir, w)) (hu : hsStep dir bd b w s = .failed u) : SeqStep s (gotoReset u) := by
  refine seqStep_of_hsStep he (by rw [hu]; rfl) (goto_quiet .rst1 u).toBusStill rfl ?_ ?_ ?_ mem_phases_rst1 ?_ ?_
  · rw [hu]; rfl
  · simp [Seq.engine]
  · simp [Seq.holdsBus]
  · simp
  · simp

/-- `CMD2` (R187). -/
theorem commandByte_seqStep {s t : State} {i : Fin 6} {w : Hs} (hs : s.seq = .cmd2 i w)
    (h : commandByte i w s = .next t) : SeqStep s t := by
  have he : s.seq.engine = some (.fromHost, w) := hs ▸ rfl
  unfold commandByte at h
  cases hu : readByteStep w s with
  | more w' u =>
    obtain rfl : goto (.cmd2 i w') u = t := by simpa [hu] using h
    exact seqStep_of_more he hu rfl (hs ▸ rfl) (by simp) (by simp)
  | done b u =>
    obtain rfl : cdbByteRead i b u = t := by simpa [hu] using h
    simp only [cdbByteRead]
    split
    · exact seqStep_of_done he hu ⟨⟨rfl, rfl, rfl, rfl⟩, rfl, rfl, rfl, id⟩ rfl rfl (by simp [Seq.engine]) rfl
        (hs ▸ rfl) (by simp) (by simp)
    · exact seqStep_of_done he hu ⟨⟨rfl, rfl, rfl, rfl⟩, rfl, rfl, rfl, id⟩ rfl rfl (by simp [Seq.engine]) rfl
        (hs ▸ rfl) (by simp) (by simp)
  | failed u =>
    obtain rfl : gotoReset u = t := by simpa [hu] using h
    exact seqStep_of_failed he hu
  | fault f => simp [hu] at h

/-- `STAT2` (R192). -/
theorem statusByte_seqStep {s t : State} {w : Hs} (hs : s.seq = .stat2 w) (h : statusByte w s = .next t) :
    SeqStep s t := by
  have he : s.seq.engine = some (.toHost, w) := hs ▸ rfl
  unfold statusByte at h
  cases hu : writeByteStep s.status w s with
  | more w' u =>
    obtain rfl : goto (.stat2 w') u = t := by simpa [hu] using h
    exact seqStep_of_more he hu rfl (hs ▸ rfl) (by simp) (by simp)
  | done c u =>
    obtain rfl : goto .stat3 u = t := by simpa [hu] using h
    exact seqStep_of_done he hu (goto_quiet _ u).toBusStill rfl rfl (by simp [Seq.engine]) rfl (hs ▸ rfl)
      (by simp) (by simp)
  | failed u =>
    obtain rfl : gotoReset u = t := by simpa [hu] using h
    exact seqStep_of_failed he hu
  | fault f => simp [hu] at h

/-- `MSG2` (R194). -/
theorem messageByte_seqStep {s t : State} {w : Hs} (hs : s.seq = .msg2 w) (h : messageByte w s = .next t) :
    SeqStep s t := by
  have he : s.seq.engine = some (.toHost, w) := hs ▸ rfl
  unfold messageByte at h
  cases hu : writeByteStep s.cfg.msgCommandComplete w s with
  | more w' u =>
    obtain rfl : goto (.msg2 w') u = t := by simpa [hu] using h
    exact seqStep_of_more he hu rfl (hs ▸ rfl) (by simp) (by simp)
  | done c u =>
    obtain rfl : goto .msg3 u = t := by simpa [hu] using h
    exact seqStep_of_done he hu (goto_quiet _ u).toBusStill rfl rfl (by simp [Seq.engine]) rfl (hs ▸ rfl)
      (by simp) (by simp)
  | failed u =>
    obtain rfl : gotoReset u = t := by simpa [hu] using h
    exact seqStep_of_failed he hu
  | fault f => simp [hu] at h

/-- A handler without steps, run inside `CMD3` (log entry 11). -/
theorem seqStep_of_returned {s t : State} {i : Instr} (hs : s.seq = .cmd3) (h : Rested i (goto .disp s) t)
    (ht : t.seq = .disp1) : SeqStep s t := by
  have hq := (goto_quiet .disp s).trans h.toQuiet
  refine seqStep_of_still (hs ▸ rfl) h.rests.engine hq.toBusStill ?_ (fun hp => ⟨?_, fun hf => hq.phase ▸ hf⟩)
    (inDispatchOk_of_outside (by simp [ht]) (by simp [ht]))
  · simp [hs, ht, Seq.holdsBus]
  · rw [hs] at hp
    rw [hq.phase, h.rests.phases]
    exact disp_between.phases _ hp

/-- `CMD3` (R187): PB3, then `SQ_DISPATCH`, unless the handler takes no step. -/
theorem commandDone_seqStep {s t : State} (hs : s.seq = .cmd3) (h : commandDone s = .next t) : SeqStep s t := by
  obtain ⟨-, hc⟩ | ⟨-, hr, hc⟩ | ⟨-, hr, hc⟩ := commandDone_cases s
  · obtain rfl : gotoReset s = t := by simpa [hc] using h
    exact seqStep_gotoReset (hs ▸ rfl) (quiet_refl s)
  · obtain ⟨f, -, hx⟩ | ⟨op, f, -, hx⟩ := exec_of_returnsAtOnce (s := goto .disp s) rfl hr
    · obtain rfl : finishOk (decoded (goto .disp s)) = t := by simpa [hc, hx] using h
      exact seqStep_of_returned hs ((decoded_quiet _).rested (finishOk_rested (fetched s) _)) rfl
    · obtain rfl : finishIllegal (decoded (goto .disp s)) = t := by simpa [hc, hx] using h
      exact seqStep_of_returned hs ((decoded_quiet _).rested (finishIllegal_rested (fetched s) _)) rfl
  · obtain rfl : goto .disp s = t := by simpa [hc] using h
    refine seqStep_of_still (hs ▸ rfl) rfl (goto_quiet _ s).toBusStill ?_ (fun hp => ⟨?_, id⟩) ⟨?_, fun _ => hr⟩
    · simp [hs, Seq.holdsBus]
    · rwa [hs] at hp
    · intro k hk
      simp at hk

theorem busRelease_seqStep {s : State} (hs : s.seq = .rel) : SeqStep s (busRelease s) where
  toSeqOwned := ⟨rfl, rfl, rfl, rfl⟩
  bus := .release (hs ▸ rfl) rfl rfl rfl rfl rfl
  phase _ := by simp [Seq.phases]
  buf := id
  inDispatch _ := inDispatchOk_of_outside (by simp) (by simp)

theorem resetEntry_seqStep {s : State} (hs : s.seq = .rst1) : SeqStep s (resetEntry s) where
  toSeqOwned := ⟨rfl, rfl, rfl, rfl⟩
  bus := .release (hs ▸ rfl) rfl rfl rfl rfl rfl
  phase _ := by simp [Seq.phases]
  buf := id
  inDispatch _ := inDispatchOk_of_outside (by simp) (by simp)

theorem resetReturn_seqStep {s : State} (hs : s.seq = .rst3) : SeqStep s (resetReturn s) :=
  seqStep_of_still (hs ▸ rfl) rfl ⟨⟨rfl, rfl, rfl, rfl⟩, rfl, rfl, rfl, id⟩ (by simp [hs, Seq.holdsBus])
    (by simp [hs, Seq.phases]) (inDispatchOk_of_outside (by simp) (by simp))

/-- A boundary of the sequencer that opens the phase `p` at `q` (R190, R193). -/
theorem boundary_setPhase_seqStep {s : State} {p : Phase} {q : Seq} (he : s.seq.engine = none)
    (hb : s.seq.holdsBus = some true) (he' : q.engine = none) (hb' : q.holdsBus = some true) (hp : q.phases = [p])
    (hf : p ≠ .busFree) (hd : q ≠ .disp) (hh : ∀ k, q ≠ .handler k) :
    SeqStep s (boundary (fun t => goto q (setPhase p t)) s) :=
  seqStep_boundary he (quiet_refl s)
    (seqStep_of_still he he' ⟨⟨rfl, rfl, rfl, rfl⟩, rfl, rfl, rfl, id⟩ (by simp [hb, hb']) (by simp [hp, hf])
      (inDispatchOk_of_outside hd hh))

/-- Every step of SEQ. -/
theorem seqStep_cases {s t : State} (h : seqStep s = .next t) : SeqStep s t := by
  cases hs : s.seq <;> simp only [seqStep, hs, Host.Outcome.next.injEq] at h
  case bf1 => exact h ▸ busFreePoll_seqStep hs
  case sel1 => exact h ▸ selectStart_seqStep hs
  case sel2 => exact h ▸ selectValidate_seqStep hs
  case sel3 present => exact h ▸ selectDone_seqStep hs
  case cmd1 =>
    exact phaseStart_seqStep (dir := .fromHost) (hs ▸ rfl) (hs ▸ rfl) (hs ▸ rfl) rfl rfl rfl (by simp) (by simp) h
  case cmd2 i w => exact commandByte_seqStep hs h
  case cmd3 => exact commandDone_seqStep hs h
  case disp => exact seqStep_of_exec h
  case handler k => exact seqStep_of_exec h
  case disp1 =>
    exact h ▸ boundary_setPhase_seqStep (hs ▸ rfl) (hs ▸ rfl) rfl rfl rfl (by simp) (by simp) (by simp)
  case stat1 =>
    exact phaseStart_seqStep (dir := .toHost) (hs ▸ rfl) (hs ▸ rfl) (hs ▸ rfl) rfl rfl rfl (by simp) (by simp) h
  case stat2 w => exact statusByte_seqStep hs h
  case stat3 =>
    exact h ▸ boundary_setPhase_seqStep (hs ▸ rfl) (hs ▸ rfl) rfl rfl rfl (by simp) (by simp) (by simp)
  case msg1 =>
    exact phaseStart_seqStep (dir := .toHost) (hs ▸ rfl) (hs ▸ rfl) (hs ▸ rfl) rfl rfl rfl (by simp) (by simp) h
  case msg2 w => exact messageByte_seqStep hs h
  case msg3 =>
    refine h ▸ seqStep_boundary (hs ▸ rfl) (quiet_refl s) ?_
    exact seqStep_of_still (hs ▸ rfl) rfl (goto_quiet _ s).toBusStill (by simp [hs, Seq.holdsBus])
      (fun hp => ⟨by simpa [hs, Seq.phases] using hp, id⟩) (inDispatchOk_of_outside (by simp) (by simp))
  case rel => exact h ▸ busRelease_seqStep hs
  case rst1 => exact h ▸ resetEntry_seqStep hs
  case rst3 => exact h ▸ resetReturn_seqStep hs

/-! ### The invariant is kept -/

/-- The part of the invariant that speaks of the lines. -/
structure State.LinesOk (s : State) : Prop where
  dir : s.dbDir = dirOfIo s.out.io
  req : s.out.req = s.seq.holdsReq
  bsy : ∀ b, s.seq.holdsBus = some b → s.out.bsy = b
  free : s.phase = .busFree → s.out = .released ∧ s.dbDir = .input
  lun : s.lunValid = true → s.out.bsy = true
  lines : s.seq.engine.isSome → ⟨s.out.msg, s.out.cd, s.out.io⟩ = phaseFlags s.phase
  xfer : ∀ dir h, s.seq.engine = some (dir, h) → s.dbDir = busDirOf dir

/-- The lines after a step of SEQ, by what the step does to them. -/
theorem BusStep.linesOk {s t : State} (hs : s.Inv) (h : BusStep s t) : t.LinesOk := by
  cases h with
  | still engine engine' lines bus free =>
    refine ⟨?_, ?_, fun b hb => ?_, fun hp => ?_, fun hl => ?_, by simp [engine'], by simp [engine']⟩
    · rw [lines.dbDir, lines.out, hs.dir]
    · rw [lines.out, hs.req, holdsReq_of_engine_none engine, holdsReq_of_engine_none engine']
    · rw [lines.out, hs.bsy b (bus b hb)]
    · rw [lines.out, lines.dbDir]; exact hs.free (free hs.phase hp)
    · rw [lines.out]; exact hs.lun (lines.lunValid ▸ hl)
  | flags p dir engine engine' bus phases phase out dbDir agree lunValid =>
    have hp : s.phase = p := by simpa [phases] using hs.phase
    refine ⟨?_, ?_, fun b hb => ?_, fun hfree => ?_, fun hl => ?_, fun _ => ?_, fun d w hd => ?_⟩
    · rw [dbDir, out]; rfl
    · rw [out, holdsReq_of_engine engine', hsStart_holdsReq]
      exact hs.req.trans (holdsReq_of_engine_none engine)
    · rw [out, ← hs.bsy b (bus ▸ holdsBus_of_engine engine' ▸ hb)]; rfl
    · exact absurd (hs.bsy true bus) (by simp [(hs.free (phase ▸ hfree)).1, OutLines.released])
    · rw [out]; exact hs.lun (lunValid ▸ hl)
    · rw [out, phase, hp]; rfl
    · obtain ⟨rfl, -⟩ : dir = d ∧ hsStart dir = w := by simpa [engine'] using hd
      rw [dbDir, agree]
  | handshake dir w engine engine' bus req bsy msg cd io dbDir lunValid phase =>
    refine ⟨?_, ?_, fun b hb => ?_, fun hp => ?_, fun hl => ?_, fun _ => ?_, fun d w' hd => ?_⟩
    · rw [dbDir, io, hs.dir]
    · exact req (hs.req.trans (holdsReq_of_engine engine))
    · rw [bsy, bus b hb, hs.bsy true (holdsBus_of_engine engine)]
    · exact absurd (phase.symm.trans hp ▸ hs.phase) (busFree_not_mem_phases_of_engine engine)
    · rw [bsy]; exact hs.lun (lunValid ▸ hl)
    · rw [msg, cd, io, phase]; exact hs.lines (by simp [engine])
    · rw [dbDir, engine' d w' hd]; exact hs.xfer dir w engine
  | select seq seq' out dbDir phase =>
    have hp : s.phase = .arbSel := by simpa [seq, Seq.phases] using hs.phase
    refine ⟨?_, ?_, ?_, ?_, ?_, ?_, ?_⟩
    · rw [dbDir, out, hs.dir]
    · rw [out, seq']; exact hs.req.trans (by rw [seq]; rfl)
    · simp [out, seq', Seq.holdsBus]
    · simp [phase, hp]
    · simp [out]
    · simp [seq', Seq.engine]
    · simp [seq', Seq.engine]
  | release engine engine' bus out dbDir lunValid =>
    refine ⟨?_, ?_, ?_, fun _ => ⟨out, dbDir⟩, ?_, ?_, ?_⟩
    · rw [dbDir, out]; rfl
    · rw [out, holdsReq_of_engine_none engine']; rfl
    · simp [bus, out, OutLines.released]
    · simp [lunValid]
    · simp [engine']
    · simp [engine']

theorem inv_of_parts {s : State} (buf : s.bufOk) (lines : s.LinesOk) (phase : s.phase ∈ s.seq.phases)
    (ok : s.InDispatchOk) : s.Inv where
  buf := buf
  dir := lines.dir
  req := lines.req
  bsy := lines.bsy
  free := lines.free
  lun := lines.lun
  phase := phase
  lines := lines.lines
  xfer := lines.xfer
  handler k hk := (ok.stands k hk).1
  count _ _ _ hk := (ok.stands _ hk).2
  steps := ok.steps
  send _ _ hk := (ok.stands _ hk).2
  receive _ _ _ hk := (ok.stands _ hk).2

theorem SeqStep.inv {s t : State} (hs : s.Inv) (h : SeqStep s t) : t.Inv :=
  inv_of_parts (h.buf hs.buf) (h.bus.linesOk hs) (h.phase hs.phase) (h.inDispatch hs.inDispatchOk)

/-- The invariant reads neither what MON and HOST write, nor the schedule, nor the diagnostic record. -/
theorem State.Inv.of_outside {s : State} (h : s.Inv) (f p : Bool) (l : HostLines) (d : List DiagEvent)
    (ms : List Move) : State.Inv { s with resetFlag := f, rstPending := p, host := l, diag := d, sched := ms } where
  buf := h.buf
  dir := h.dir
  req := h.req
  bsy := h.bsy
  free := h.free
  lun := h.lun
  phase := h.phase
  lines := h.lines
  xfer := h.xfer
  handler := h.handler
  count := h.count
  steps := h.steps
  send := h.send
  receive := h.receive

/-! ### The other agents -/

theorem monStep_frame (s : State) : ∃ f p d, monStep s = { s with resetFlag := f, rstPending := p, diag := d } := by
  unfold monStep
  split
  · exact ⟨true, false, _, rfl⟩
  · exact ⟨s.resetFlag, s.rstPending, s.diag, rfl⟩

theorem hostStep_frame {m : HostMove} {s t : State} (h : hostStep m s = .next t) :
    ∃ l p, t = { s with host := l, rstPending := p } ∧ ((∀ a, m ≠ .line .rst a) → p = s.rstPending) := by
  cases m with
  | line l a =>
    obtain rfl : hostLine l a s = t := by simpa [hostStep] using h
    cases l with
    | rst => exact ⟨_, _, rfl, fun hne => absurd rfl (hne a)⟩
    | sel => exact ⟨_, _, rfl, fun _ => rfl⟩
    | ack => exact ⟨_, _, rfl, fun _ => rfl⟩
    | atn => exact ⟨_, _, rfl, fun _ => rfl⟩
  | drive b =>
    simp only [hostStep] at h
    split at h
    · cases h
    · cases h
      exact ⟨_, _, rfl, fun _ => rfl⟩
  | release =>
    cases h
    exact ⟨_, _, rfl, fun _ => rfl⟩

theorem popMove_inv {s : State} (h : s.Inv) : (popMove s).Inv :=
  h.of_outside s.resetFlag s.rstPending s.host s.diag s.sched.tail

theorem agentStep_inv {m : Move} {s t : State} (hs : s.Inv) (h : agentStep m s = .next t) : t.Inv := by
  cases m with
  | seq => exact (seqStep_cases h).inv hs
  | mon =>
    obtain rfl : monStep s = t := by simpa [agentStep] using h
    obtain ⟨f, p, d, heq⟩ := monStep_frame s
    exact heq ▸ hs.of_outside f p s.host d s.sched
  | host a =>
    obtain ⟨l, p, rfl, -⟩ := hostStep_frame h
    exact hs.of_outside s.resetFlag p l s.diag s.sched

/-- Settles O33: the schedule's move is taken, and the agent's step keeps the invariant. -/
theorem invStep : Obligations.InvStep := fun _ _ hs h => agentStep_inv (popMove_inv hs) h

/-- Settles O32: at power-on SEQ stands in BusFree with everything released and the buffer empty. -/
theorem invAtReset : Obligations.InvAtReset := by
  refine inv_of_parts ⟨⟨.nil, by simp [State.reset]⟩, by simp [State.reset]⟩ ?lines (by simp [State.reset, Seq.phases])
    (inDispatchOk_of_outside (by simp [State.reset]) (by simp [State.reset]))
  case lines =>
    have he : State.reset.seq.engine = none := rfl
    refine ⟨rfl, rfl, ?_, fun _ => ⟨rfl, rfl⟩, by simp [State.reset], by simp [he], by simp [he]⟩
    simp [State.reset, Seq.holdsBus, OutLines.released]

/-- Settles O37: SEQ's frame is part of `SeqStep`; the other agents have a lemma each. -/
theorem ownership : Obligations.Ownership := by
  refine ⟨fun s t h => ?seq, fun s t h => ?mon, fun m s t h => hostStep_frame h⟩
  case seq =>
    have hs := seqStep_cases h
    exact ⟨hs.rstPending, hs.cfg, hs.host, hs.sched⟩
  case mon =>
    obtain rfl : monStep s = t := by simpa [agentStep] using h
    exact monStep_frame s

/-- R43 item 5 for SEQ: REQ is asserted inside the handshake only, and the handshake moves REQ alone. -/
theorem BusStep.held_under_req {s t : State} (hs : s.Inv) (hr : s.out.req = true) (h : BusStep s t) :
    t.dbDir = s.dbDir ∧ t.out.msg = s.out.msg ∧ t.out.cd = s.out.cd ∧ t.out.io = s.out.io ∧
      t.out.bsy = s.out.bsy := by
  have hne : s.seq.engine ≠ none := fun he => by
    simp [hs.req, holdsReq_of_engine_none he] at hr
  cases h with
  | still engine => exact absurd engine hne
  | flags p dir engine => exact absurd engine hne
  | handshake dir w engine engine' bus req bsy msg cd io dbDir => exact ⟨dbDir, msg, cd, io, bsy⟩
  | select seq => exact absurd (by rw [seq]; rfl) hne
  | release engine => exact absurd engine hne

/-- Settles O35: only SEQ drives the lines, and its steps under REQ are the handshake's. -/
theorem directionHeldUnderReq : Obligations.DirectionHeldUnderReq := by
  intro s t hs hr h
  unfold step at h
  cases hm : nextMove s with
  | seq =>
    rw [hm] at h
    exact (seqStep_cases h).bus.held_under_req (s := popMove s) (popMove_inv hs) hr
  | mon =>
    obtain rfl : monStep (popMove s) = t := by simpa [hm, agentStep] using h
    obtain ⟨f, p, d, heq⟩ := monStep_frame (popMove s)
    rw [heq]
    exact ⟨rfl, rfl, rfl, rfl, rfl⟩
  | host a =>
    rw [hm] at h
    obtain ⟨l, p, rfl, -⟩ := hostStep_frame h
    exact ⟨rfl, rfl, rfl, rfl, rfl⟩

/-- Under the invariant a host that keeps its duties drives the bus only while the target does not: it looks at I/O,
and the direction follows I/O (R43 item 1, R336). -/
theorem hostStep_of_dutiful {d : HostDuty} {m : HostMove} {s : State} (hs : s.Inv)
    (h : dutiful d (.host m) s = true) : ∃ t, hostStep m s = .next t := by
  cases m with
  | line l a => exact ⟨_, rfl⟩
  | release => exact ⟨_, rfl⟩
  | drive b =>
    have hio : s.out.io = false := by
      simp only [dutiful, Bool.and_eq_true, Bool.not_eq_true'] at h
      obtain ⟨⟨⟨hio, -⟩, -⟩, -⟩ := h
      exact hio
    have hdir : s.dbDir ≠ .output := by simp [hs.dir, hio, dirOfIo]
    exact ⟨_, if_neg hdir⟩

/-- Settles O31: each move by its definition, and the admission of dutiful moves by `hostStep_of_dutiful`. -/
theorem dutifulHostNeverRefused : Obligations.DutifulHostNeverRefused :=
  ⟨fun _ _ _ => ⟨rfl, rfl, rfl, rfl, rfl⟩, fun _ _ _ hs h => hostStep_of_dutiful hs h⟩

end Sys2Proof.Machine

/-! PROOF. A whole block against a host that answers (R97, R155, R205, R206): each byte's events are played once, in one
lemma per direction that gives the state the round leaves, and an induction over the bytes puts the rounds together. -/

namespace Sys2Proof.Machine

/-! ### Playing moves one after the other -/

theorem play_append {ms ms' : List Move} {s t : State} {bs cs : List Byte} {o : Outcome}
    (h : play ms s = (bs, .next t)) (h' : play ms' t = (cs, o)) : play (ms ++ ms') s = (bs ++ cs, o) := by
  induction ms generalizing s bs with
  | nil =>
    obtain ⟨rfl, rfl⟩ : [] = bs ∧ s = t := by simpa [play] using h
    simpa using h'
  | cons m ms ih =>
    simp only [List.cons_append, play] at h ⊢
    cases hm : agentStep m s with
    | next u =>
      simp only [hm, Prod.mk.injEq] at h ⊢
      obtain ⟨rfl, hnext⟩ := h
      rw [ih (Prod.ext rfl hnext)]
      simp
    | fault f => simp [hm] at h
    | refused r => simp [hm] at h

theorem play_cons {m : Move} {ms : List Move} {s t : State} {bs : List Byte} {o : Outcome}
    (h : agentStep m s = .next t) (h' : play ms t = (bs, o)) : play (m :: ms) s = (hostTakes m s ++ bs, o) := by
  simp only [play, h, h']

theorem hostTakes_of_ne {m : Move} (hm : m ≠ .host (.line .ack true)) (s : State) : hostTakes m s = [] :=
  if_neg fun h => hm h.1

/-- On a bus that the target does not drive the host's ACK samples nothing. -/
theorem hostTakes_of_input {s : State} (hd : s.dbDir = .input) (m : Move) : hostTakes m s = [] :=
  if_neg fun ⟨_, _, _, ho⟩ => by simp [hd] at ho

/-- On a bus that only the target drives the host's ACK samples `db_out` (R91, R97 step 3). -/
theorem hostTakes_ack {s : State} (hd : s.dbDir = .output) (hdb : s.host.db = none) (ha : s.host.ack = false)
    (hr : s.out.req = true) : hostTakes (.host (.line .ack true)) s = [s.dbOut] := by
  simp [hostTakes, hd, ha, hr, busWires, hdb, wireByte]

theorem play_seq {ms : List Move} {s t : State} {r : List Byte × Outcome} (h : seqStep s = .next t)
    (h' : play ms t = r) : play (.seq :: ms) s = r := by
  rw [play_cons (m := .seq) h h', hostTakes_of_ne (by simp), List.nil_append]

theorem play_ackDown {ms : List Move} {s : State} {r : List Byte × Outcome}
    (h' : play ms (hostLine .ack false s) = r) : play (.host (.line .ack false) :: ms) s = r := by
  rw [play_cons (m := .host (.line .ack false)) rfl h', hostTakes_of_ne (by simp), List.nil_append]

/-- The host asserts ACK: it samples a byte to it as it does so (R333). -/
theorem play_ackUp_output {ms : List Move} {s : State} {bs : List Byte} {o : Outcome} (hd : s.dbDir = .output)
    (hdb : s.host.db = none) (ha : s.host.ack = false) (hr : s.out.req = true)
    (h' : play ms (hostLine .ack true s) = (bs, o)) : play (.host (.line .ack true) :: ms) s = (s.dbOut :: bs, o) := by
  rw [play_cons (m := .host (.line .ack true)) rfl h', hostTakes_ack hd hdb ha hr, List.singleton_append]

theorem play_ackUp_input {ms : List Move} {s : State} {r : List Byte × Outcome} (hd : s.dbDir = .input)
    (h' : play ms (hostLine .ack true s) = r) : play (.host (.line .ack true) :: ms) s = r := by
  rw [play_cons (m := .host (.line .ack true)) rfl h', hostTakes_of_input hd, List.nil_append]

/-- The host puts a byte on a bus that it may drive (R322). -/
theorem play_drive {ms : List Move} {s : State} {r : List Byte × Outcome} {b : Byte} (hd : s.dbDir = .input)
    (h' : play ms { s with host := { s.host with db := some b } } = r) : play (.host (.drive b) :: ms) s = r := by
  have hstep : hostStep (.drive b) s = .next { s with host := { s.host with db := some b } } :=
    if_neg (by simp [hd])
  rw [play_cons (m := .host (.drive b)) hstep h', hostTakes_of_input hd, List.nil_append]

/-! ### Bytes written one after the other -/

/-- The buffer after the bytes `bs` are written from address `a` on, one after the other (R155). -/
def Memory.writeFrom (m : Memory) (a : Nat) (bs : List Byte) : Memory :=
  match bs with
  | [] => m
  | b :: bs => (m.write a b).writeFrom (a + 1) bs

theorem Memory.read_writeFrom_below {m : Memory} {a x : Nat} (bs : List Byte) (h : x < a) :
    (m.writeFrom a bs).read x = m.read x := by
  induction bs generalizing m a with
  | nil => rfl
  | cons b bs ih =>
    calc ((m.write a b).writeFrom (a + 1) bs).read x
        = (m.write a b).read x := ih (Nat.lt_succ_of_lt h)
      _ = m.read x := Memory.read_write_other m b h.ne

theorem Memory.read_writeFrom {m : Memory} (hm : m.wf) (a : Nat) (bs : List Byte) (i : Nat) (h : i < bs.length) :
    (m.writeFrom a bs).read (a + i) = bs[i] := by
  induction bs generalizing m a i with
  | nil => simp at h
  | cons b bs ih =>
    cases i with
    | zero =>
      calc ((m.write a b).writeFrom (a + 1) bs).read a
          = (m.write a b).read a := Memory.read_writeFrom_below bs a.lt_succ_self
        _ = b := Memory.read_write_same a b hm
    | succ i =>
      have hi := ih (Memory.write_wf a b hm) (a + 1) i (by simpa using h)
      rwa [show a + 1 + i = a + (i + 1) by omega] at hi

/-- A buffer written over from end to end holds the bytes written, whatever it held before. -/
theorem Memory.block_writeFrom {m : Memory} (hm : m.wf) (bs : List Byte) (h : bs.length = blockSize) :
    (m.writeFrom 0 bs).block = bs := by
  apply List.ext_getElem
  · simp [h]
  · intro i _ hi
    have := Memory.read_writeFrom hm 0 bs i hi
    simpa [Memory.block] using this

/-! ### SEQ's step inside a block -/

/-- What the handler of `i` does in the step that completes a block (R230, R231, R241, R242). -/
def onBlockFull (i : Instr) (dir : XferDir) (k : Nat) (s : State) : State :=
  match dir with
  | .fromHost => goto (.handler (.call k)) s
  | .toHost =>
    match i with
    | .read6 f => read6Sent f k s
    | _ => finishOk s

/-- The step of every command that moves blocks is the step of the block procedure. -/
theorem exec_block {i : Instr} {s : State} {dir : XferDir} {k : Nat} {p : DataPos}
    (hs : s.seq = .handler (.block dir k p)) (hi : handlerMayStandAt i (.block dir k p) = true) :
    exec i s = blockPhase dir k p (onBlockFull i dir k) s := by
  cases dir with
  | toHost =>
    cases i with
    | read6 f => simp only [exec, execRead6, hs]; rfl
    | fcodeRead f => simp only [exec, execFcodeRead, vendorIn, hs]; rfl
    | vSense f => simp only [exec, execVSense, vendorIn, hs]; rfl
    | vInfo f => simp only [exec, execVInfo, vendorIn, hs]; rfl
    | vRead f => simp only [exec, execVRead, vendorIn, hs]; rfl
    | _ => cases hi
  | fromHost =>
    cases i with
    | write6 f => simp only [exec, execWrite6, hs]; rfl
    | fcodeWrite f => simp only [exec, execFcodeWrite, vendorOut, hs]; rfl
    | vSelect f => simp only [exec, execVSelect, vendorOut, hs]; rfl
    | vPath f => simp only [exec, execVPath, vendorOut, hs]; rfl
    | _ => cases hi

/-- A command that moves blocks in the direction `dir` is in `cdb`. -/
def State.MovesBlocks (dir : XferDir) (s : State) : Prop := handlerMayStandAt (fetched s) (.block dir 0 .dp0) = true

theorem State.Inv.movesBlocks {s : State} (h : s.Inv) {dir : XferDir} {k : Nat} {p : DataPos}
    (hs : s.seq = .handler (.block dir k p)) : s.MovesBlocks dir :=
  (mayStandAt_block _ dir 0 k .dp0 p).trans (h.handler _ hs)

theorem seqStep_block {s : State} {dir : XferDir} {k : Nat} {p : DataPos} (hs : s.seq = .handler (.block dir k p))
    (hi : s.MovesBlocks dir) : seqStep s = blockPhase dir k p (onBlockFull (fetched s) dir k) s := by
  have hstep : seqStep s = exec (fetched s) s := by simp only [seqStep, hs, dispatchStep]
  exact hstep.trans <| exec_block hs ((mayStandAt_block _ dir k 0 p .dp0).trans hi)

/-- Where SEQ goes with a byte of block `k` done and counted: on to the next byte, or out of the full block (R155). -/
def blockByteOver (i : Instr) (dir : XferDir) (k : Nat) (s : State) : State :=
  if s.n = blockSize then onBlockFull i dir k (emit (.blockMoved dir s.n) s)
  else goto (.handler (.block dir k (.dp2 (hsStart dir)))) s

theorem onBlockFull_frame (i : Instr) (dir : XferDir) (k : Nat) (s : State) :
    ∃ q st se, onBlockFull i dir k s = { s with seq := q, status := st, sense := se } := by
  cases dir with
  | fromHost => exact ⟨_, _, _, rfl⟩
  | toHost =>
    cases i with
    | read6 f =>
      simp only [onBlockFull, read6Sent]
      split <;> exact ⟨_, _, _, rfl⟩
    | _ => exact ⟨_, _, _, rfl⟩

/-- The end of a byte moves SEQ and, at the end of a command, writes its result; it touches nothing else. -/
theorem blockByteOver_frame (i : Instr) (dir : XferDir) (k : Nat) (s : State) :
    ∃ q st se dg, blockByteOver i dir k s = { s with seq := q, status := st, sense := se, diag := dg } := by
  unfold blockByteOver
  split
  · obtain ⟨q, st, se, h⟩ := onBlockFull_frame i dir k (emit (.blockMoved dir s.n) s)
    exact ⟨q, st, se, _, h⟩
  · exact ⟨_, _, _, _, rfl⟩

theorem blockByteOver_seq_next (i : Instr) (dir : XferDir) (k : Nat) {s : State} (hn : s.n < blockSize) :
    (blockByteOver i dir k s).seq = .handler (.block dir k (.dp2 (hsStart dir))) := by
  rw [blockByteOver, if_neg hn.ne, goto_seq]

/-- After the last byte from the host the handler's storage call is next (R231, R242). -/
theorem blockByteOver_seq_full (i : Instr) (k : Nat) {s : State} (hn : s.n = blockSize) :
    (blockByteOver i .fromHost k s).seq = .handler (.call k) := by
  rw [blockByteOver, if_pos hn, onBlockFull, goto_seq]

theorem hostLine_onBlockFull (a : Bool) (i : Instr) (dir : XferDir) (k : Nat) (s : State) :
    hostLine .ack a (onBlockFull i dir k s) = onBlockFull i dir k (hostLine .ack a s) := by
  cases dir with
  | fromHost => rfl
  | toHost =>
    cases i with
    | read6 f =>
      simp only [onBlockFull, read6Sent]
      split <;> rfl
    | _ => rfl

/-- The host's move of ACK may as well come before SEQ goes on. -/
theorem hostLine_blockByteOver (a : Bool) (i : Instr) (dir : XferDir) (k : Nat) (s : State) :
    hostLine .ack a (blockByteOver i dir k s) = blockByteOver i dir k (hostLine .ack a s) := by
  have hn : (hostLine .ack a s).n = s.n := rfl
  unfold blockByteOver
  rw [hn]
  split
  · exact hostLine_onBlockFull a i dir k _
  · rfl

/-- SEQ is inside block `k`, the engine at `w`. -/
structure State.AtBlock (dir : XferDir) (k : Nat) (w : Hs) (s : State) : Prop where
  seq : s.seq = .handler (.block dir k (.dp2 w))
  moves : s.MovesBlocks dir
  count : s.n < blockSize

/-- What the host drives is no matter of where SEQ stands. -/
theorem State.AtBlock.host {dir : XferDir} {k : Nat} {w : Hs} {s : State} (h : s.AtBlock dir k w) (l : HostLines) :
    { s with host := l }.AtBlock dir k w := ⟨h.seq, h.moves, h.count⟩

/-- A step of the engine within a byte. -/
theorem State.AtBlock.seqStep_more {dir : XferDir} {k : Nat} {w w' : Hs} {s u : State} (h : s.AtBlock dir k w)
    (hw : hsStep dir true (s.buf.read s.n) w s = .more w' u) :
    seqStep s = .next (goto (.handler (.block dir k (.dp2 w'))) u) := by
  simp [seqStep_block h.seq h.moves, blockPhase, blockMove, Nat.not_le.2 h.count, hw]

/-- After a step within a byte SEQ is still inside the block, for all that is played next. -/
theorem State.AtBlock.play_more {dir : XferDir} {k : Nat} {w w' : Hs} {s u : State} {ms : List Move}
    {r : List Byte × Outcome} (h : s.AtBlock dir k w) (hw : hsStep dir true (s.buf.read s.n) w s = .more w' u)
    (h' : (goto (.handler (.block dir k (.dp2 w'))) u).AtBlock dir k w' →
      play ms (goto (.handler (.block dir k (.dp2 w'))) u) = r) : play (.seq :: ms) s = r := by
  have hf : EngineFrame s u := hsStep_frame (by rw [hw]; rfl)
  have hmoves : u.MovesBlocks dir := by
    rw [State.MovesBlocks, fetched, hf.cfg, hf.cdb]
    exact h.moves
  exact play_seq (h.seqStep_more hw) (h' ⟨rfl, hmoves, hf.n ▸ h.count⟩)

/-- The step of the engine that ends a byte to the host. -/
theorem State.AtBlock.seqStep_sent {k : Nat} {w : Hs} {b : Byte} {s u : State} (h : s.AtBlock .toHost k w)
    (hw : hsStep .toHost true (s.buf.read s.n) w s = .done b u) :
    seqStep s = .next (blockByteOver (fetched s) .toHost k { u with n := u.n + 1 }) := by
  rw [seqStep_block h.seq h.moves]
  by_cases hn : u.n + 1 = blockSize
  · simp [blockPhase, blockMove, Nat.not_le.2 h.count, hw, byteDone, blockByteOver, hn]
  · simp [blockPhase, blockMove, Nat.not_le.2 h.count, hw, byteDone, blockByteOver, hn]

/-- The step of the engine that ends a byte from the host. -/
theorem State.AtBlock.seqStep_received {k : Nat} {w : Hs} {b : Byte} {s u : State} (h : s.AtBlock .fromHost k w)
    (hw : hsStep .fromHost true (s.buf.read s.n) w s = .done b u) :
    seqStep s = .next (blockByteOver (fetched s) .fromHost k { u with buf := u.buf.write u.n b, n := u.n + 1 }) := by
  rw [seqStep_block h.seq h.moves]
  by_cases hn : u.n + 1 = blockSize
  · simp [blockPhase, blockMove, Nat.not_le.2 h.count, hw, byteDone, blockByteOver, hn]
  · simp [blockPhase, blockMove, Nat.not_le.2 h.count, hw, byteDone, blockByteOver, hn]

/-- The poll that sees ACK (R151). -/
theorem hsStep_wait_ack {dir : XferDir} {bd : Bool} {b : Byte} {s : State} (hf : s.resetFlag = false)
    (ha : s.host.ack = true) : hsStep dir bd b .wait s = .more .release s := by
  simp [hsStep, waitPoll, poll, readLine, hf, ha]

/-- The poll of a bounded wait that sees neither flag nor ACK and does not reach the bound (R155). -/
theorem hsStep_wait_vain {dir : XferDir} {b : Byte} {s : State} (hf : s.resetFlag = false)
    (ha : s.host.ack = false) (hp : s.polls + 1 < s.cfg.ackPollBound) :
    hsStep dir true b .wait s = .more .wait { s with polls := s.polls + 1 } := by
  simp [hsStep, waitPoll, poll, readLine, countPoll, hf, ha, hp]

/-- The sample of a byte that the host drives (R135). -/
theorem hsStep_sample {dir : XferDir} {bd : Bool} {b c : Byte} {s : State} (hd : s.dbDir = .input)
    (hdb : s.host.db = some c) : hsStep dir bd b .sample s = .done c s := by
  have hread : readDataBus s = c := by simp [readDataBus, hd, hdb]
  have hafter : afterReadDataBus s = s := by simp [afterReadDataBus, hdb]
  rw [hsStep, hread, hafter]

/-! ### One byte, played whole -/

/-- SEQ is between two bytes of block `k`, or has just completed it, and the host rests. -/
structure State.BetweenBytes (dir : XferDir) (k : Nat) (s : State) : Prop where
  moves : s.MovesBlocks dir
  flag : s.resetFlag = false
  ack : s.host.ack = false
  req : s.out.req = false
  bus : s.dbDir = busDirOf dir
  next : s.n < blockSize → s.seq = .handler (.block dir k (.dp2 (hsStart dir)))
  full : s.n = blockSize → dir = .fromHost → s.seq = .handler (.call k)

theorem State.BetweenBytes.atBlock {dir : XferDir} {k : Nat} {s : State} (h : s.BetweenBytes dir k)
    (hn : s.n < blockSize) : s.AtBlock dir k (hsStart dir) := ⟨h.next hn, h.moves, hn⟩

/-- `db_out` is no matter of where SEQ stands. -/
theorem State.BetweenBytes.place {dir : XferDir} {k : Nat} {s : State} (h : s.BetweenBytes dir k) (b : Byte) :
    { s with dbOut := b }.BetweenBytes dir k :=
  ⟨h.moves, h.flag, h.ack, h.req, h.bus, h.next, h.full⟩

/-- The state in which SEQ waits for ACK, REQ asserted, after `d` polls. -/
def State.awaiting (dir : XferDir) (k d : Nat) (s : State) : State :=
  { s with seq := .handler (.block dir k (.dp2 .wait)), out := { s.out with req := true }, polls := d }

section
variable {dir : XferDir} {k d : Nat} {s : State}

theorem State.BetweenBytes.awaiting (h : s.BetweenBytes dir k) (hn : s.n < blockSize) (p : Nat) :
    (s.awaiting dir k p).AtBlock dir k .wait := ⟨rfl, h.moves, hn⟩

/-- Vain polls below the bound are counted and change nothing else (R155, R156). -/
theorem State.BetweenBytes.play_polls (h : s.BetweenBytes dir k) (hn : s.n < blockSize) {p e : Nat} (he : p + d = e)
    (hlt : e < s.cfg.ackPollBound) :
    play (List.replicate d .seq) (s.awaiting dir k p) = ([], .next (s.awaiting dir k e)) := by
  induction d generalizing p with
  | zero => rw [← he]; rfl
  | succ d ih =>
    have hpoll := hsStep_wait_vain (dir := dir) (b := s.buf.read s.n) (s := s.awaiting dir k p) h.flag h.ack
      (show p + 1 < s.cfg.ackPollBound by omega)
    exact play_seq ((h.awaiting hn p).seqStep_more hpoll) (ih (p := p + 1) (by omega))

/-- TB1 and TB2 of a byte to the host: the byte is placed before REQ is asserted (R97). -/
theorem State.BetweenBytes.play_place (h : s.BetweenBytes .toHost k) (hn : s.n < blockSize) :
    play [.seq, .seq] s = ([], .next ({ s with dbOut := s.buf.read s.n }.awaiting .toHost k 0)) := by
  have hplace : hsStep .toHost true (s.buf.read s.n) .idle s = .more .drive (writeDataBus (s.buf.read s.n) s) := by
    simp [hsStep, startWrite, h.bus, busDirOf, h.req]
  exact (h.atBlock hn).play_more hplace fun hdrive => play_seq (hdrive.seqStep_more rfl) rfl

/-- TB2 of a byte from the host: REQ is asserted. -/
theorem State.BetweenBytes.play_ask (h : s.BetweenBytes .fromHost k) (hn : s.n < blockSize) :
    play [.seq] s = ([], .next (s.awaiting .fromHost k 0)) := by
  have hask : hsStep .fromHost true (s.buf.read s.n) .req s = .more .wait (raiseReq true s) := by
    simp [hsStep, startRead, h.bus, busDirOf, h.req]
  exact play_seq ((h.atBlock hn).seqStep_more hask) rfl

/-- REQ is back where it was before the byte. -/
theorem State.BetweenBytes.out_eq (h : s.BetweenBytes dir k) : { s.out with req := false } = s.out := by
  rw [← h.req]

/-- ACK is back where it was before the byte. -/
theorem State.BetweenBytes.host_eq (h : s.BetweenBytes dir k) : { s.host with ack := false } = s.host := by
  rw [← h.ack]

/-- The host answers a byte to it: it samples `db_out`, and TB4 counts the byte. -/
theorem State.BetweenBytes.play_taken (h : s.BetweenBytes .toHost k) (hn : s.n < blockSize) (hdb : s.host.db = none) :
    play [.host (.line .ack true), .seq, .seq, .host (.line .ack false)] (s.awaiting .toHost k d) =
      ([s.dbOut], .next (blockByteOver (fetched s) .toHost k
        { s with seq := .handler (.block .toHost k (.dp2 .release)), polls := d, n := s.n + 1 })) := by
  refine play_ackUp_output h.bus hdb h.ack rfl ?_
  refine ((h.awaiting hn d).host _).play_more (hsStep_wait_ack h.flag rfl) fun hrelease => ?_
  refine play_seq (hrelease.seqStep_sent rfl) (play_ackDown ?_)
  rw [hostLine_blockByteOver, ← h.out_eq, ← h.host_eq]
  rfl

/-- The host gives a byte: TB4 samples it, stores it at `buf[n]` and counts it. -/
theorem State.BetweenBytes.play_given (h : s.BetweenBytes .fromHost k) (hn : s.n < blockSize) (b : Byte) :
    play [.host (.drive b), .host (.line .ack true), .seq, .seq, .seq, .host (.line .ack false)]
        (s.awaiting .fromHost k d) =
      ([], .next (blockByteOver (fetched s) .fromHost k
        { s with
          seq := .handler (.block .fromHost k (.dp2 .sample))
          host := { s.host with db := some b }
          polls := d
          buf := s.buf.write s.n b
          n := s.n + 1 })) := by
  have hbus : s.dbDir = .input := h.bus
  refine play_drive hbus (play_ackUp_input hbus ?_)
  refine ((h.awaiting hn d).host _).play_more (hsStep_wait_ack h.flag rfl) fun hrelease => ?_
  refine hrelease.play_more rfl fun hsample => ?_
  refine play_seq (hsample.seqStep_received (hsStep_sample hbus rfl)) (play_ackDown ?_)
  rw [hostLine_blockByteOver, ← h.out_eq, ← h.host_eq]
  rfl

/-- A byte to the host (event order of R97): the host samples `buf[n]`, and `n` counts it. -/
theorem State.BetweenBytes.play_takeRound (h : s.BetweenBytes .toHost k) (hn : s.n < blockSize)
    (hdb : s.host.db = none) (hd : d < s.cfg.ackPollBound) :
    play (takeRound d) s = ([s.buf.read s.n], .next (blockByteOver (fetched s) .toHost k
      { s with
        seq := .handler (.block .toHost k (.dp2 .release))
        dbOut := s.buf.read s.n
        polls := d
        n := s.n + 1 })) := by
  have hplaced := h.place (s.buf.read s.n)
  have hpolls := hplaced.play_polls hn (Nat.zero_add d) hd
  exact play_append (play_append (h.play_place hn) hpolls) (hplaced.play_taken hn hdb)

/-- A byte from the host (event order of R97): it is stored at `buf[n]`, and `n` counts it. -/
theorem State.BetweenBytes.play_giveRound (h : s.BetweenBytes .fromHost k) (hn : s.n < blockSize) (b : Byte)
    (hd : d < s.cfg.ackPollBound) :
    play (giveRound d b) s = ([], .next (blockByteOver (fetched s) .fromHost k
      { s with
        seq := .handler (.block .fromHost k (.dp2 .sample))
        host := { s.host with db := some b }
        polls := d
        buf := s.buf.write s.n b
        n := s.n + 1 })) := by
  have hpolls := h.play_polls hn (Nat.zero_add d) hd
  exact play_append (play_append (h.play_ask hn) hpolls) (h.play_given hn b)

end

/-! ### A block's bytes one after the other -/

/-- `c` bytes of block `k` have crossed the bus, and `buf` is now `m`. -/
structure BytesMoved (dir : XferDir) (k c : Nat) (m : Memory) (s t : State) : Prop where
  between : t.BetweenBytes dir k
  n : t.n = s.n + c
  buf : t.buf = m
  out : t.out = s.out
  phase : t.phase = s.phase
  cfg : t.cfg = s.cfg
  calls : t.calls = s.calls
  db : dir = .toHost → t.host.db = s.host.db

theorem State.BetweenBytes.moved_none {dir : XferDir} {k : Nat} {s : State} (h : s.BetweenBytes dir k) :
    BytesMoved dir k 0 s.buf s s := ⟨h, rfl, rfl, rfl, rfl, rfl, rfl, fun _ => rfl⟩

theorem BytesMoved.trans {dir : XferDir} {k c d : Nat} {m m' : Memory} {s t u : State}
    (h : BytesMoved dir k c m s t) (h' : BytesMoved dir k d m' t u) : BytesMoved dir k (d + c) m' s u where
  between := h'.between
  n := by rw [h'.n, h.n, Nat.add_assoc, Nat.add_comm c]
  buf := h'.buf
  out := h'.out.trans h.out
  phase := h'.phase.trans h.phase
  cfg := h'.cfg.trans h.cfg
  calls := h'.calls.trans h.calls
  db hd := (h'.db hd).trans (h.db hd)

theorem blockByteOver_betweenBytes (i : Instr) {dir : XferDir} (k : Nat) {s : State} (moves : s.MovesBlocks dir)
    (flag : s.resetFlag = false) (ack : s.host.ack = false) (req : s.out.req = false) (bus : s.dbDir = busDirOf dir) :
    (blockByteOver i dir k s).BetweenBytes dir k := by
  have hnext := blockByteOver_seq_next i dir k (s := s)
  have hfull : s.n = blockSize → dir = .fromHost → (blockByteOver i dir k s).seq = .handler (.call k) := by
    rintro hn rfl
    exact blockByteOver_seq_full i k hn
  obtain ⟨q, st, se, dg, heq⟩ := blockByteOver_frame i dir k s
  rw [heq] at hnext hfull ⊢
  exact ⟨moves, flag, ack, req, bus, hnext, hfull⟩

/-- One byte, whatever the round left in the registers of the handshake. -/
theorem State.BetweenBytes.moved_one {dir : XferDir} {k : Nat} {s u : State} (h : s.BetweenBytes dir k)
    {q : Seq} {o : Byte} {m : Memory} {x : Option Byte} {d : Nat} (hx : dir = .toHost → x = s.host.db)
    (hu : u = { s with seq := q, dbOut := o, buf := m, host := { s.host with db := x }, polls := d, n := s.n + 1 }) :
    BytesMoved dir k 1 m s (blockByteOver (fetched s) dir k u) := by
  have hbetween : (blockByteOver (fetched s) dir k u).BetweenBytes dir k := by
    subst hu
    exact blockByteOver_betweenBytes _ k h.moves h.flag h.ack h.req h.bus
  obtain ⟨q', st, se, dg, heq⟩ := blockByteOver_frame (fetched s) dir k u
  rw [heq] at hbetween ⊢
  subst hu
  exact ⟨hbetween, rfl, rfl, rfl, rfl, rfl, rfl, hx⟩

/-- The rounds of a block to the host: the host samples the bytes from `buf[n]` on in ascending order (R63). -/
theorem State.BetweenBytes.play_takeRounds {k : Nat} {s : State} (h : s.BetweenBytes .toHost k)
    (hdb : s.host.db = none) (ds : List Nat) (hn : s.n + ds.length ≤ blockSize)
    (hds : ∀ d ∈ ds, d < s.cfg.ackPollBound) :
    ∃ t, play (ds.flatMap takeRound) s = ((List.range' s.n ds.length).map s.buf.read, .next t) ∧
      BytesMoved .toHost k ds.length s.buf s t := by
  induction ds generalizing s with
  | nil => exact ⟨s, rfl, h.moved_none⟩
  | cons d ds ih =>
    obtain ⟨hd, hds⟩ := List.forall_mem_cons.1 hds
    rw [List.length_cons] at hn
    obtain ⟨u, hround, hone⟩ : ∃ u, play (takeRound d) s = ([s.buf.read s.n], .next u) ∧
        BytesMoved .toHost k 1 s.buf s u :=
      ⟨_, h.play_takeRound (by omega) hdb hd, h.moved_one (fun _ => rfl) rfl⟩
    obtain ⟨t, hrest, hmoved⟩ := ih hone.between ((hone.db rfl).trans hdb) (by rw [hone.n]; omega)
      (by rwa [hone.cfg])
    rw [hone.buf, hone.n] at hrest
    rw [hone.buf] at hmoved
    exact ⟨t, play_append hround hrest, hone.trans hmoved⟩

/-- The rounds of a block from the host: the bytes stand in `buf` from `buf[n]` on in the order sent (R63). -/
theorem State.BetweenBytes.play_giveRounds {k : Nat} {s : State} (h : s.BetweenBytes .fromHost k)
    (ps : List (Nat × Byte)) (hn : s.n + ps.length ≤ blockSize) (hps : ∀ p ∈ ps, p.1 < s.cfg.ackPollBound) :
    ∃ t, play (ps.flatMap fun p => giveRound p.1 p.2) s = ([], .next t) ∧
      BytesMoved .fromHost k ps.length (s.buf.writeFrom s.n (ps.map Prod.snd)) s t := by
  induction ps generalizing s with
  | nil => exact ⟨s, rfl, h.moved_none⟩
  | cons p ps ih =>
    obtain ⟨hp, hps⟩ := List.forall_mem_cons.1 hps
    rw [List.length_cons] at hn
    obtain ⟨u, hround, hone⟩ : ∃ u, play (giveRound p.1 p.2) s = ([], .next u) ∧
        BytesMoved .fromHost k 1 (s.buf.write s.n p.2) s u :=
      ⟨_, h.play_giveRound (by omega) p.2 hp, h.moved_one (by simp) rfl⟩
    obtain ⟨t, hrest, hmoved⟩ := ih hone.between (by rw [hone.n]; omega) (by rwa [hone.cfg])
    rw [hone.buf, hone.n] at hmoved
    exact ⟨t, play_append hround hrest, hone.trans hmoved⟩

/-! ### The beginning of a block -/

/-- Block `k` has begun: SEQ stands before its first byte, under the lines of the data phase (R96). -/
structure BlockBegun (dir : XferDir) (k : Nat) (s t : State) : Prop where
  between : t.BetweenBytes dir k
  n : t.n = 0
  buf : t.buf = s.buf
  phase : t.phase = phaseOfDir dir
  out : t.out = ⟨s.out.bsy, false, false, false, decide (dir = .toHost)⟩
  cfg : t.cfg = s.cfg
  calls : t.calls = s.calls
  db : t.host.db = s.host.db

/-- `DP1` (R205, R206). -/
theorem play_fromFlags {dir : XferDir} {k : Nat} {s : State} (hs : s.Inv) (hp : s.seq = .handler (.block dir k .dp1))
    (hf : s.resetFlag = false) (ha : s.host.ack = false) :
    ∃ t, play [.seq] s = ([], .next t) ∧ BlockBegun dir k s t := by
  have hreq : s.out.req = false := by rw [hs.req, hp]; rfl
  have hphase : s.phase = phaseOfDir dir := by
    have := hs.phase
    rw [hp] at this
    exact List.mem_singleton.1 this
  have hstep : seqStep s = .next (goto (.handler (.block dir k (.dp2 (hsStart dir))))
      (driveFlags (phaseFlags (phaseOfDir dir)) { s with n := 0 })) := by
    rw [seqStep_block hp (hs.movesBlocks hp)]
    exact dataFlags_eq dir _ _ hreq
  refine ⟨_, play_seq hstep rfl, ⟨hs.movesBlocks hp, hf, ha, hreq, ?bus, fun _ => rfl, ?full⟩, rfl, rfl, hphase, ?out,
    rfl, rfl, rfl⟩
  case bus => cases dir <;> rfl
  case full => intro h; cases h
  case out => cases dir <;> simp [phaseOfDir, phaseFlags, hreq]

/-- `DP0` with the flag clear, then `DP1` (R181, R205, R206). -/
theorem play_fromBoundary {dir : XferDir} {k : Nat} {s : State} (hs : s.Inv)
    (hp : s.seq = .handler (.block dir k .dp0)) (hf : s.resetFlag = false) (ha : s.host.ack = false) :
    ∃ t, play [.seq, .seq] s = ([], .next t) ∧ BlockBegun dir k s t := by
  have hstep : seqStep s = .next (goto (.handler (.block dir k .dp1)) (setPhase (phaseOfDir dir) s)) := by
    rw [seqStep_block hp (hs.movesBlocks hp)]
    simp [blockPhase, dataBoundary, hf]
  have hinv := agentStep_inv (m := .seq) hs hstep
  obtain ⟨t, hplay, hbegun⟩ := play_fromFlags hinv rfl hf ha
  exact ⟨t, play_seq hstep hplay, { hbegun with }⟩

/-! ### The two statements -/

/-- Settles O15: the boundary and the flags, then the 256 rounds from `n = 0`. -/
theorem blockToHostInOrder : Obligations.BlockToHostInOrder := by
  intro s k ds hs hp hf ha hdb hlen hds
  obtain ⟨u, hbegin, hu⟩ := play_fromBoundary hs hp hf ha
  obtain ⟨t, hrounds, ht⟩ := hu.between.play_takeRounds (hu.db.trans hdb) ds
    (by rw [hu.n, hlen]) (by rwa [hu.cfg])
  have hbytes : (List.range' u.n ds.length).map u.buf.read = s.buf.block := by
    rw [hu.n, hlen, hu.buf, ← List.range_eq_range', Memory.block, blockSize]
  rw [hbytes] at hrounds
  refine ⟨t, play_append hbegin hrounds, ?n, ht.buf.trans hu.buf, ht.phase.trans hu.phase, ht.between.bus,
    ht.out.trans hu.out, ht.between.flag, ht.calls.trans hu.calls⟩
  case n => rw [ht.n, hu.n, hlen]

/-- Settles O16: from either start to the first byte, then the 256 rounds, which write `buf` over from end to end. -/
theorem blockFromHostInOrder : Obligations.BlockFromHostInOrder := by
  intro s k lead ps hs hp hf ha hlen hps
  obtain ⟨u, hbegin, hu⟩ : ∃ u, play lead s = ([], .next u) ∧ BlockBegun .fromHost k s u := by
    obtain ⟨hp, rfl⟩ | ⟨hp, rfl⟩ := hp
    · exact play_fromBoundary hs hp hf ha
    · exact play_fromFlags hs hp hf ha
  obtain ⟨t, hrounds, ht⟩ := hu.between.play_giveRounds ps (by rw [hu.n, hlen]) (by rwa [hu.cfg])
  have hn : t.n = 256 := by rw [ht.n, hu.n, hlen]
  have hbytes : t.buf.block = ps.map Prod.snd := by
    rw [ht.buf, hu.n, hu.buf]
    exact Memory.block_writeFrom hs.buf.1 _ (by rw [List.length_map, hlen, blockSize])
  exact ⟨t, play_append hbegin hrounds, hbytes, hn, ht.between.full hn rfl, ht.phase.trans hu.phase,
    ht.between.bus, ht.out.trans hu.out, ht.between.flag, ht.calls.trans hu.calls⟩

end Sys2Proof.Machine

section
/-! PROOF. The decoder and the encoder (R98, R99, R104, R106, R115, R221): the opcode match is the first hit in a table
with one row per named command, and what is said of every command is read off from that table. -/

namespace Sys2Proof

/-! ### The opcode match as a table -/

/-- The 21 rows of R221 in the order they are tried: the opcode byte, where the configuration has one, and the
command it stands for. -/
def Opc.rows (o : Opc) : List (Option Byte × (Fields → Instr)) :=
  [(some o.testUnitReady, .testUnitReady), (some o.rezeroUnit, .rezeroUnit), (some o.requestSense, .requestSense),
    (some o.format, .format), (some o.read6, .read6), (some o.write6, .write6), (some o.seek, .seek),
    (some o.translate, .translate), (some o.inquiry, .inquiry), (some o.modeSelect, .modeSelect),
    (some o.modeSense, .modeSense), (some o.startStop, .startStop), (some o.verify, .verify), (o.select, .select),
    (some o.fcodeRead, .fcodeRead), (some o.fcodeWrite, .fcodeWrite), (some o.vSense, .vSense),
    (some o.vSelect, .vSelect), (some o.vPath, .vPath), (some o.vInfo, .vInfo), (some o.vRead, .vRead)]

/-- The command of the first row whose opcode byte is `b`, and `ILLEGAL` past the last row (R106). -/
def matchRows (rows : List (Option Byte × (Fields → Instr))) (b : Byte) (f : Fields) : Instr :=
  match rows with
  | [] => .illegal b f
  | r :: rows => if some b = r.1 then r.2 f else matchRows rows b f

theorem decodeCdb_eq_matchRows (o : Opc) (c : Cdb) : decodeCdb o c = matchRows o.rows c.b0 c.fields := by
  simp only [decodeCdb, Opc.rows, matchRows, Option.some.injEq]

/-- The match hits a row, or no row has the byte. -/
theorem matchRows_cases (rows : List (Option Byte × (Fields → Instr))) (b : Byte) (f : Fields) :
    (∃ r ∈ rows, r.1 = some b ∧ matchRows rows b f = r.2 f) ∨
      (∀ r ∈ rows, r.1 ≠ some b) ∧ matchRows rows b f = .illegal b f := by
  induction rows with
  | nil => exact .inr ⟨by simp, rfl⟩
  | cons r rows ih =>
    by_cases hr : some b = r.1
    · exact .inl ⟨r, List.mem_cons_self, hr.symm, if_pos hr⟩
    · rw [matchRows, if_neg hr]
      obtain ⟨x, hx, hkey, heq⟩ | ⟨hno, heq⟩ := ih
      · exact .inl ⟨x, List.mem_cons_of_mem _ hx, hkey, heq⟩
      · exact .inr ⟨List.forall_mem_cons.2 ⟨Ne.symm hr, hno⟩, heq⟩

/-- Where the opcode bytes are distinct, a byte is matched by its own row only. -/
theorem matchRows_of_mem {rows : List (Option Byte × (Fields → Instr))} (hd : (rows.filterMap Prod.fst).Nodup)
    {b : Byte} {mk : Fields → Instr} (h : (some b, mk) ∈ rows) (f : Fields) : matchRows rows b f = mk f := by
  induction rows with
  | nil => cases h
  | cons r rows ih =>
    obtain rfl | htail := List.mem_cons.1 h
    · exact if_pos rfl
    · have hmem : b ∈ rows.filterMap Prod.fst := List.mem_filterMap.2 ⟨_, htail, rfl⟩
      obtain ⟨key, mk'⟩ := r
      cases key with
      | none => exact ih hd htail
      | some x =>
        obtain ⟨hx, hd⟩ := List.nodup_cons.1 hd
        have hne : some b ≠ some x := by
          rintro ⟨⟩
          exact hx hmem
        rw [matchRows, if_neg hne]
        exact ih hd htail

/-! ### The rows and the record's values -/

/-- The table has the record's values, with `OPC.SELECT` at another place. -/
theorem rows_perm_values (o : Opc) : (o.rows.filterMap Prod.fst).Perm o.values := by
  have hrows : o.rows.filterMap Prod.fst =
      (o.rows.take 13).filterMap Prod.fst ++ (o.select.toList ++ (o.rows.drop 14).filterMap Prod.fst) := by
    cases hs : o.select <;> simp [Opc.rows, hs]
  have hvalues : o.values =
      (o.rows.take 13).filterMap Prod.fst ++ ((o.rows.drop 14).filterMap Prod.fst ++ o.select.toList) := rfl
  rw [hrows, hvalues]
  exact List.perm_append_comm.append_left _

theorem mem_values_iff (o : Opc) (b : Byte) : b ∈ o.values ↔ ∃ r ∈ o.rows, r.1 = some b := by
  rw [← (rows_perm_values o).mem_iff, List.mem_filterMap]

/-- A row's command has the row's opcode byte and the fields given to it, and needs no more than that byte. -/
theorem row_spec {o : Opc} {r : Option Byte × (Fields → Instr)} (hr : r ∈ o.rows) (f : Fields) :
    (r.2 f).opcode o = r.1 ∧ (r.2 f).fields = f ∧ (r.2 f).wellFormed o = r.1.isSome := by
  revert r
  simp [Opc.rows, Instr.opcode, Instr.fields, Instr.wellFormed]

/-- A command is `ILLEGAL` or stands in the table, under its opcode byte. -/
theorem illegal_or_row (o : Opc) (i : Instr) :
    (∃ op f, i = .illegal op f) ∨ ∃ mk, (i.opcode o, mk) ∈ o.rows ∧ mk i.fields = i := by
  cases i with
  | illegal op f => exact .inl ⟨op, f, rfl⟩
  | _ =>
    refine .inr ⟨_, ?_, rfl⟩
    simp [Opc.rows, Instr.opcode]

/-! ### Decoding and encoding -/

/-- What a CDB decodes to keeps every bit of it: the opcode byte, the fields, and it is well-formed. -/
theorem decodeCdb_spec (o : Opc) (c : Cdb) :
    (decodeCdb o c).opcode o = some c.b0 ∧ (decodeCdb o c).fields = c.fields ∧
      (decodeCdb o c).wellFormed o = true := by
  rw [decodeCdb_eq_matchRows]
  obtain ⟨r, hr, hkey, heq⟩ | ⟨hno, heq⟩ := matchRows_cases o.rows c.b0 c.fields
  · obtain ⟨hop, hfields, hwf⟩ := row_spec hr c.fields
    rw [heq, hop, hfields, hwf, hkey]
    exact ⟨rfl, rfl, rfl⟩
  · have hout : c.b0 ∉ o.values := by
      rw [mem_values_iff]
      rintro ⟨r, hr, hkey⟩
      exact hno r hr hkey
    rw [heq]
    exact ⟨rfl, rfl, by simpa [Instr.wellFormed] using hout⟩

theorem decodeCdb_of_not_mem_values {o : Opc} {c : Cdb} (h : c.b0 ∉ o.values) :
    decodeCdb o c = .illegal c.b0 c.fields := by
  rw [decodeCdb_eq_matchRows]
  obtain ⟨r, hr, hkey, -⟩ | ⟨-, heq⟩ := matchRows_cases o.rows c.b0 c.fields
  · exact absurd ((mem_values_iff o c.b0).2 ⟨r, hr, hkey⟩) h
  · exact heq

/-- Under distinct opcode bytes a well-formed command is what its byte and its fields decode to. -/
theorem decodeCdb_of_opcode {o : Opc} {i : Instr} {c : Cdb} (hd : o.distinct) (hi : i.wellFormed o = true)
    (hop : i.opcode o = some c.b0) (hf : c.fields = i.fields) : decodeCdb o c = i := by
  obtain ⟨op, f, rfl⟩ | ⟨mk, hmem, hmk⟩ := illegal_or_row o i
  · obtain rfl : op = c.b0 := Option.some.inj hop
    rw [decodeCdb_of_not_mem_values (by simpa [Instr.wellFormed] using hi), hf]
    rfl
  · rw [hop] at hmem
    rw [decodeCdb_eq_matchRows, matchRows_of_mem ((rows_perm_values o).nodup_iff.2 hd) hmem, hf, hmk]

/-- Only `SELECT` can lack an opcode byte, and a well-formed one does not (R240). -/
theorem exists_opcode {o : Opc} {i : Instr} (h : i.wellFormed o = true) : ∃ op, i.opcode o = some op := by
  obtain ⟨op, f, rfl⟩ | ⟨mk, hmem, hmk⟩ := illegal_or_row o i
  · exact ⟨op, rfl⟩
  · obtain ⟨-, -, hwf⟩ := row_spec hmem i.fields
    simp only [hmk, h] at hwf
    exact Option.isSome_iff_exists.1 hwf.symm

theorem encode_of_opcode {o : Opc} {i : Instr} {op : Byte} (h : i.opcode o = some op) :
    encode o i = some (assemble op i.fields) := by
  rw [encode, h, Option.map_some]

/-- Settles O1: the CDB assembled from the command's byte and fields is matched by that byte. -/
theorem decodeOfEncode : Obligations.DecodeOfEncode := by
  intro o i hd hi
  obtain ⟨op, hop⟩ := exists_opcode hi
  refine ⟨_, encode_of_opcode hop, ?_⟩
  rw [decode_toList, decodeCdb_of_opcode hd hi hop (fields_assemble op i.fields)]

/-- Settles O2: the decoded command has the CDB's byte and fields, from which the CDB is assembled again. -/
theorem encodeOfDecode : Obligations.EncodeOfDecode := by
  intro o c
  obtain ⟨hop, hfields, hwf⟩ := decodeCdb_spec o c
  exact ⟨hwf, by rw [encode_of_opcode hop, hfields, assemble_fields]⟩

/-- Settles O4: a well-formed `ILLEGAL` has a byte outside the record, and such a byte is matched by no row. -/
theorem unmatchedOpcodes : Obligations.UnmatchedOpcodes := by
  intro o c
  refine ⟨fun h => ?_, decodeCdb_of_not_mem_values⟩
  obtain ⟨-, -, hwf⟩ := decodeCdb_spec o c
  rw [h] at hwf
  simpa [Instr.wellFormed] using hwf

/-! ### Operands -/

/-- Settles O5: `lba` is put together from the parts of three bytes, each below the weight of the part above it. -/
theorem operandAssembly : Obligations.OperandAssembly := by
  intro c
  refine ⟨?lba, ?lunSel, rfl, rfl⟩
  case lba =>
    have h2 := c.b2.isLt
    have h3 := c.b3.isLt
    simp only [Cdb.fields, BitVec.toNat_append, BitVec.extractLsb'_toNat, Nat.shiftRight_zero]
    rw [← Nat.shiftLeft_add_eq_or_of_lt h2, ← Nat.shiftLeft_add_eq_or_of_lt h3]
    simp only [Nat.shiftLeft_eq]
    omega
  case lunSel =>
    have h1 := c.b1.isLt
    simp only [Cdb.fields, BitVec.extractLsb'_toNat, Nat.shiftRight_eq_div_pow]
    omega

/-- Settles O3: each word is evaluated. -/
theorem exampleWords : Obligations.ExampleWords := by
  refine ⟨?_, ?_, ?_, ?_, ?_, ?_, ?_⟩ <;> rfl

end Sys2Proof
end

section
/-! PROOF. How many blocks a transfer has and where they lie (R99, R101, R250). -/

namespace Sys2Proof.Machine

theorem blockCount_bounds (f : Fields) : 1 ≤ blockCount f ∧ blockCount f ≤ 256 := by
  by_cases h : f.len = 0
  · simp [blockCount, h]
  · have hne : f.len.toNat ≠ 0 := mt (BitVec.toNat_inj (y := 0)).1 h
    have hlt := f.len.isLt
    rw [blockCount, if_neg h]
    omega

/-- The widened address has room for every block of a transfer, so the sum does not wrap around (R101). -/
theorem blockAddr_toNat (f : Fields) {k : Nat} (hk : k ≤ 255) : (blockAddr f k).toNat = f.lba.toNat + k := by
  have hlba := f.lba.isLt
  simp only [blockAddr, BitVec.toNat_add, BitVec.toNat_setWidth, BitVec.toNat_ofNat]
  omega

/-- Settles O6: the count's bounds leave `k` at most 255, and a 21-bit `lba` plus 255 is at most `0x2000FE`. -/
theorem blockAddresses : Obligations.BlockAddresses := by
  intro f
  obtain ⟨hpos, hmax⟩ := blockCount_bounds f
  refine ⟨rfl, hpos, hmax, fun k hk => ?_⟩
  have haddr := blockAddr_toNat f (k := k) (by omega)
  have hlba := f.lba.isLt
  exact ⟨haddr, by omega⟩

end Sys2Proof.Machine
end

section
/-! PROOF. The lines of each phase before its bytes (R96, R157, R187, R192, R194, R205 to R208). -/

namespace Sys2Proof.Machine

/-- The phase flags outside a handshake, written out (R157). -/
theorem driveFlags_of_no_req (f : PhaseFlags) {s : State} (h : s.out.req = false) : driveFlags f s =
    { s with
      out := ⟨s.out.bsy, false, f.message, f.commandNotData, f.inputNotOutput⟩
      dbDir := dirOfIo f.inputNotOutput } := by
  rw [← h]
  rfl

/-! ### The phases of the sequencer -/

theorem phaseStart_eq (p : Phase) (q : Seq) {s : State} (h : s.out.req = false) :
    phaseStart p q s = .next (goto q (driveFlags (phaseFlags p) s)) := by
  simp [phaseStart, setDataPhaseFlags, h, andThen]

theorem seqStep_cmd1 {s : State} (hs : s.seq = .cmd1) :
    seqStep s = phaseStart .command (.cmd2 0 (hsStart .fromHost)) s := by
  simp only [seqStep, hs]

theorem seqStep_stat1 {s : State} (hs : s.seq = .stat1) :
    seqStep s = phaseStart .status (.stat2 (hsStart .toHost)) s := by
  simp only [seqStep, hs]

theorem seqStep_msg1 {s : State} (hs : s.seq = .msg1) :
    seqStep s = phaseStart .messageIn (.msg2 (hsStart .toHost)) s := by
  simp only [seqStep, hs]

/-- Settles O23: each of the three labels starts its phase, with the triple of R96. -/
theorem sequencerPhaseLines : Obligations.SequencerPhaseLines := by
  intro s hr
  refine ⟨fun hs => ?cmd1, fun hs => ?stat1, fun hs => ?msg1⟩
  case cmd1 => rw [seqStep_cmd1 hs, phaseStart_eq _ _ hr, driveFlags_of_no_req _ hr]; rfl
  case stat1 => rw [seqStep_stat1 hs, phaseStart_eq _ _ hr, driveFlags_of_no_req _ hr]; rfl
  case msg1 => rw [seqStep_msg1 hs, phaseStart_eq _ _ hr, driveFlags_of_no_req _ hr]; rfl

/-! ### The data phases -/

/-- `DP1` outside a handshake, for either direction: DataIn asserts I/O and turns the bus, DataOut neither. -/
theorem dataFlags_of_no_req (dir : XferDir) (k : HandlerPos) {s : State} (h : s.out.req = false) :
    dataFlags dir k s = .next
      { s with
        out := ⟨s.out.bsy, false, false, false, decide (dir = .toHost)⟩
        dbDir := busDirOf dir
        seq := .handler k } := by
  rw [dataFlags_eq _ _ _ h, driveFlags_of_no_req _ h]
  cases dir <;> rfl

/-- The step of every command that sends a byte string is the step of `dataInBytes`. -/
theorem exec_bytesIn {i : Instr} {s : State} {rest : List Byte} {p : DataPos}
    (hs : s.seq = .handler (.bytesIn rest p)) (hi : handlerMayStandAt i (.bytesIn rest p) = true) :
    exec i s = bytesInPhase rest p s := by
  cases i with
  | requestSense f => simp only [exec, execRequestSense, hs]
  | inquiry f => simp only [exec, execInquiry, hs]
  | translate f => simp only [exec, execTranslate, hs]
  | modeSense f => simp only [exec, execModeSense, hs]
  | _ => cases hi

/-- The step of the command that receives a byte string is the step of `dataOutBytes`. -/
theorem exec_bytesOut {i : Instr} {s : State} {rest : Nat} {q : List Byte} {p : DataPos}
    (hs : s.seq = .handler (.bytesOut rest q p)) (hi : handlerMayStandAt i (.bytesOut rest q p) = true) :
    exec i s = bytesOutPhase rest q p s := by
  cases i with
  | modeSelect f => simp only [exec, execModeSelect, hs]
  | _ => cases hi

/-- Settles O59: `DP1` of each of the four data procedures, with the triple of R96. -/
theorem dataPhaseLines : Obligations.DataPhaseLines := by
  intro i s hr
  refine ⟨fun j hi hs => ?blockIn, fun j hi hs => ?blockOut, fun r hi hs => ?bytesIn, fun r q hi hs => ?bytesOut⟩
  case blockIn => exact (exec_block hs hi).trans (dataFlags_of_no_req .toHost _ hr)
  case blockOut => exact (exec_block hs hi).trans (dataFlags_of_no_req .fromHost _ hr)
  case bytesIn => exact (exec_bytesIn hs hi).trans (dataFlags_of_no_req .toHost _ hr)
  case bytesOut => exact (exec_bytesOut hs hi).trans (dataFlags_of_no_req .fromHost _ hr)

end Sys2Proof.Machine
end

section
/-! PROOF. A byte string against a host that answers (R97, R152, R153, R207, R208, R223, R236). One byte of `readByte`
or `writeByte` is played once for all of SEQ's labels that move one; an induction over the string puts the bytes
together. -/

namespace Sys2Proof.Machine

/-! ### One byte of `readByte` or `writeByte`, played whole -/

/-- `s` as a byte's handshake changes it: SEQ's label, REQ, the byte on the bus and the host's lines. -/
def State.inByte (s : State) (q : Seq) (req : Bool) (o : Byte) (l : HostLines) : State :=
  { s with seq := q, out := { s.out with req := req }, dbOut := o, host := l }

/-- At the labels `q` SEQ moves one byte, `b` if it goes to the host, and with the byte done it goes on as `fin`
says. -/
structure State.MovesByte (dir : XferDir) (b : Byte) (q : Hs → Seq) (fin : Byte → State → State) (s : State) :
    Prop where
  more : ∀ {w w' r o l u}, hsStep dir false b w (s.inByte (q w) r o l) = .more w' u →
    seqStep (s.inByte (q w) r o l) = .next (goto (q w') u)
  done : ∀ {w r o l c u}, hsStep dir false b w (s.inByte (q w) r o l) = .done c u →
    seqStep (s.inByte (q w) r o l) = .next (fin c u)
  /-- The host's move of ACK may as well come before SEQ goes on. -/
  ackDown : ∀ c u, hostLine .ack false (fin c u) = fin c (hostLine .ack false u)

/-- No reset and no handshake is under way, and the bus is turned the byte's way. -/
structure State.ReadyForByte (dir : XferDir) (s : State) : Prop where
  flag : s.resetFlag = false
  ack : s.host.ack = false
  req : s.out.req = false
  bus : s.dbDir = busDirOf dir

/-- A wait of a single byte has no bound: a poll that sees neither flag nor ACK changes nothing (R152, R153). -/
theorem hsStep_wait_unbounded {dir : XferDir} {b : Byte} {s : State} (hf : s.resetFlag = false)
    (ha : s.host.ack = false) : hsStep dir false b .wait s = .more .wait s := by
  simp [hsStep, waitPoll, poll, readLine, countPoll, hf, ha]

theorem play_ackDown_last {s t : State} (h : hostLine .ack false s = t) :
    play [.host (.line .ack false)] s = ([], .next t) := play_ackDown (h ▸ rfl)

section
variable {dir : XferDir} {b : Byte} {q : Hs → Seq} {fin : Byte → State → State} {s : State}

theorem State.ReadyForByte.eq_inByte (h : s.ReadyForByte dir) (hq : s.seq = q (hsStart dir)) :
    s = s.inByte (q (hsStart dir)) false s.dbOut s.host := by
  rw [State.inByte, ← hq, ← h.req]

/-- With REQ and ACK down again a byte has changed SEQ's label, the byte on the bus and what the host drives. -/
theorem State.ReadyForByte.ackDown_inByte (h : s.ReadyForByte dir) (q : Seq) (o : Byte) (x : Option Byte) :
    hostLine .ack false (s.inByte q false o { s.host with ack := true, db := x }) =
      { s with seq := q, dbOut := o, host := { s.host with db := x } } := by
  have hout : { s.out with req := false } = s.out := by rw [← h.req]
  have hhost : { s.host with ack := false, db := x } = { s.host with db := x } := by rw [← h.ack]
  simp only [State.inByte, hostLine, hout, hhost]

theorem State.MovesByte.play_polls (hm : s.MovesByte dir b q fin) (h : s.ReadyForByte dir) (o : Byte) (d : Nat) :
    play (List.replicate d .seq) (s.inByte (q .wait) true o s.host) =
      ([], .next (s.inByte (q .wait) true o s.host)) := by
  induction d with
  | zero => rfl
  | succ d ih => exact play_seq (hm.more (hsStep_wait_unbounded h.flag h.ack)) ih

/-- WB0 and WB1: the byte is placed before REQ is asserted (R97). -/
theorem State.MovesByte.play_place (hm : s.MovesByte .toHost b q fin) (h : s.ReadyForByte .toHost)
    (hq : s.seq = q .idle) : play [.seq, .seq] s = ([], .next (s.inByte (q .wait) true b s.host)) := by
  have hplace : hsStep .toHost false b .idle (s.inByte (q .idle) false s.dbOut s.host) =
      .more .drive (s.inByte (q .idle) false b s.host) := by
    simp [hsStep, startWrite, writeDataBus, State.inByte, h.bus, busDirOf]
  have hdrive : hsStep .toHost false b .drive (s.inByte (q .drive) false b s.host) =
      .more .wait (s.inByte (q .drive) true b s.host) := rfl
  rw [h.eq_inByte (q := q) hq]
  exact play_seq (hm.more hplace) (play_seq (hm.more hdrive) rfl)

/-- RB1: REQ is asserted. -/
theorem State.MovesByte.play_ask (hm : s.MovesByte .fromHost b q fin) (h : s.ReadyForByte .fromHost)
    (hq : s.seq = q .req) : play [.seq] s = ([], .next (s.inByte (q .wait) true s.dbOut s.host)) := by
  have hask : hsStep .fromHost false b .req (s.inByte (q .req) false s.dbOut s.host) =
      .more .wait (s.inByte (q .req) true s.dbOut s.host) := by
    simp [hsStep, startRead, raiseReq, setReq, State.inByte, h.bus, busDirOf]
  rw [h.eq_inByte (q := q) hq]
  exact play_seq (hm.more hask) rfl

/-- A byte to the host (event order of R97): the host samples it, however late it answers. -/
theorem State.MovesByte.play_takeRound (hm : s.MovesByte .toHost b q fin) (h : s.ReadyForByte .toHost)
    (hq : s.seq = q .idle) (hdb : s.host.db = none) (d : Nat) :
    play (takeRound d) s = ([b], .next (fin b { s with seq := q .release, dbOut := b })) := by
  have htaken : play [.host (.line .ack true), .seq, .seq, .host (.line .ack false)]
      (s.inByte (q .wait) true b s.host) = ([b], .next (fin b { s with seq := q .release, dbOut := b })) := by
    refine play_ackUp_output h.bus hdb h.ack rfl ?_
    refine play_seq (hm.more (hsStep_wait_ack h.flag rfl)) (play_seq (hm.done rfl) (play_ackDown_last ?_))
    rw [hm.ackDown]
    exact congrArg (fin b) (h.ackDown_inByte (q .release) b s.host.db)
  exact play_append (play_append (hm.play_place h hq) (hm.play_polls h b d)) htaken

/-- A byte from the host (event order of R97): it is sampled after REQ falls, however late the host answers. -/
theorem State.MovesByte.play_giveRound (hm : s.MovesByte .fromHost b q fin) (h : s.ReadyForByte .fromHost)
    (hq : s.seq = q .req) (d : Nat) (c : Byte) :
    play (giveRound d c) s =
      ([], .next (fin c { s with seq := q .sample, host := { s.host with db := some c } })) := by
  have hgiven : play [.host (.drive c), .host (.line .ack true), .seq, .seq, .seq, .host (.line .ack false)]
      (s.inByte (q .wait) true s.dbOut s.host) =
        ([], .next (fin c { s with seq := q .sample, host := { s.host with db := some c } })) := by
    refine play_drive h.bus (play_ackUp_input h.bus ?_)
    refine play_seq (hm.more (hsStep_wait_ack h.flag rfl)) (play_seq (hm.more rfl) ?_)
    refine play_seq (hm.done (hsStep_sample h.bus rfl)) (play_ackDown_last ?_)
    rw [hm.ackDown]
    exact congrArg (fin c) (h.ackDown_inByte (q .sample) s.dbOut (some c))
  exact play_append (play_append (hm.play_ask h hq) (hm.play_polls h s.dbOut d)) hgiven

end

/-! ### `dataInBytes` -/

/-- Where SEQ goes with a byte sent and `rest` still to send (R207). -/
def bytesInOver (rest : List Byte) (_sent : Byte) (s : State) : State :=
  if rest.isEmpty then finishOk s else goto (.handler (.bytesIn rest (.dp2 .idle))) s

/-- SEQ stands before the first byte of `rest` in `dataInBytes`, and the host rests. -/
structure State.BeforeSending (rest : List Byte) (s : State) : Prop extends s.ReadyForByte .toHost where
  seq : s.seq = .handler (.bytesIn rest (.dp2 .idle))
  sends : handlerMayStandAt (fetched s) (.bytesIn rest (.dp2 .idle)) = true
  db : s.host.db = none

theorem seqStep_bytesIn {s : State} {rest : List Byte} {p : DataPos} (hs : s.seq = .handler (.bytesIn rest p))
    (hi : handlerMayStandAt (fetched s) (.bytesIn rest p) = true) : seqStep s = bytesInPhase rest p s := by
  have hstep : seqStep s = exec (fetched s) s := by simp only [seqStep, hs, dispatchStep]
  exact hstep.trans (exec_bytesIn hs hi)

theorem State.BeforeSending.movesByte {b : Byte} {rest : List Byte} {s : State} (h : s.BeforeSending (b :: rest)) :
    s.MovesByte .toHost b (fun w => .handler (.bytesIn (b :: rest) (.dp2 w))) (bytesInOver rest) := by
  have hstep (w r o l) := seqStep_bytesIn (s := s.inByte (.handler (.bytesIn (b :: rest) (.dp2 w))) r o l) rfl
    ((mayStandAt_bytesIn _ _ _ _ _).trans h.sends)
  refine ⟨fun hw => ?more, fun hw => ?done, fun c u => ?ackDown⟩
  case more => simp [hstep, bytesInPhase, writeByteStep, hw]
  case done => simp [hstep, bytesInPhase, writeByteStep, hw, bytesInOver, hsStart]
  case ackDown => cases rest <;> rfl

/-- The state before the next byte, when one has been sent. -/
theorem State.BeforeSending.next {b c : Byte} {rest : List Byte} {s : State} (h : s.BeforeSending (b :: c :: rest)) :
    { s with seq := .handler (.bytesIn (c :: rest) (.dp2 .idle)), dbOut := b }.BeforeSending (c :: rest) where
  flag := h.flag
  ack := h.ack
  req := h.req
  bus := h.bus
  seq := rfl
  sends := (mayStandAt_bytesIn _ _ _ _ _).trans h.sends
  db := h.db

/-- The rounds of a string to the host: it samples the string in order, and the handler returns `ok()`
(R207, R223). -/
theorem State.BeforeSending.play_takeRounds {rest : List Byte} {s : State} (h : s.BeforeSending rest)
    (hne : rest ≠ []) (ds : List Nat) (hlen : ds.length = rest.length) :
    ∃ o, play (ds.flatMap takeRound) s = (rest, .next (finishOk { s with dbOut := o })) := by
  induction rest generalizing s ds with
  | nil => exact absurd rfl hne
  | cons b rest ih =>
    obtain ⟨d, ds, rfl⟩ := List.exists_of_length_succ ds hlen
    have hlen : ds.length = rest.length := Nat.succ.inj hlen
    have hround := h.movesByte.play_takeRound h.toReadyForByte h.seq h.db d
    cases rest with
    | nil =>
      obtain rfl : ds = [] := List.length_eq_zero_iff.1 hlen
      exact ⟨b, play_append hround rfl⟩
    | cons c rest =>
      obtain ⟨o, hrest⟩ := ih h.next (by simp) ds hlen
      exact ⟨o, play_append hround hrest⟩

/-- The string has been sent and the handler has returned `ok()` (R207, R223). -/
structure StringSent (s t : State) : Prop where
  seq : t.seq = .disp1
  status : t.status = s.cfg.statusGood
  sense : t.sense = s.sense.set s.curLun ⟨s.cfg.senseCodes.noSense, 0, 0, 0⟩
  phase : t.phase = .dataIn
  buf : t.buf = s.buf
  flag : t.resetFlag = false
  calls : t.calls = s.calls

/-- `DP1` and the string (R207). -/
theorem play_bytesIn_fromFlags {s : State} {rest : List Byte} {ds : List Nat} (hs : s.Inv)
    (hp : s.seq = .handler (.bytesIn rest .dp1)) (hf : s.resetFlag = false) (ha : s.host.ack = false)
    (hdb : s.host.db = none) (hlen : ds.length = rest.length) :
    ∃ t, play ([.seq] ++ ds.flatMap takeRound) s = (rest, .next t) ∧ StringSent s t := by
  have hreq : s.out.req = false := by rw [hs.req, hp]; rfl
  have hphase : s.phase = .dataIn := by simpa [hp, Seq.phases, HandlerPos.phases] using hs.phase
  have hflags := (seqStep_bytesIn hp (hs.handler _ hp)).trans (dataFlags_of_no_req .toHost _ hreq)
  have hstart : { s with
      out := ⟨s.out.bsy, false, false, false, true⟩
      dbDir := .output
      seq := .handler (.bytesIn rest (.dp2 .idle)) }.BeforeSending rest :=
    ⟨⟨hf, ha, rfl, rfl⟩, rfl, (mayStandAt_bytesIn _ _ _ _ _).trans (hs.handler _ hp), hdb⟩
  obtain ⟨o, hrounds⟩ := hstart.play_takeRounds (hs.send _ _ hp) ds hlen
  exact ⟨_, play_seq hflags hrounds, rfl, rfl, rfl, hphase, rfl, hf, rfl⟩

/-- `DP0` with the flag clear, then as from `DP1` (R181, R207). -/
theorem play_bytesIn_fromBoundary {s : State} {rest : List Byte} {ds : List Nat} (hs : s.Inv)
    (hp : s.seq = .handler (.bytesIn rest .dp0)) (hf : s.resetFlag = false) (ha : s.host.ack = false)
    (hdb : s.host.db = none) (hlen : ds.length = rest.length) :
    ∃ t, play ([.seq, .seq] ++ ds.flatMap takeRound) s = (rest, .next t) ∧ StringSent s t := by
  have hstep : seqStep s = .next (goto (.handler (.bytesIn rest .dp1)) (setPhase .dataIn s)) := by
    rw [seqStep_bytesIn hp (hs.handler _ hp)]
    simp [bytesInPhase, dataBoundary, hf, phaseOfDir]
  obtain ⟨t, hplay, hsent⟩ := play_bytesIn_fromFlags (agentStep_inv (m := .seq) hs hstep) rfl hf ha hdb hlen
  exact ⟨t, play_seq hstep hplay, { hsent with }⟩

/-- Settles O17: from either start to the first byte, then a round per byte, the last of which returns `ok()`. -/
theorem byteStringToHost : Obligations.ByteStringToHost := by
  intro s lead rest ds hs hp hf ha hdb hlen
  obtain ⟨t, hplay, ht⟩ : ∃ t, play (lead ++ ds.flatMap takeRound) s = (rest, .next t) ∧ StringSent s t := by
    obtain ⟨hp, rfl⟩ | ⟨hp, rfl⟩ := hp
    · exact play_bytesIn_fromBoundary hs hp hf ha hdb hlen
    · exact play_bytesIn_fromFlags hs hp hf ha hdb hlen
  exact ⟨t, hplay, ht.seq, ht.status, ht.sense, ht.phase, ht.buf, ht.flag, ht.calls⟩

/-! ### `dataOutBytes` -/

/-- Where SEQ goes with the byte `b` received after the bytes `q`, and `rest` still to come (R208, R236). -/
def bytesOutOver (rest : Nat) (q : List Byte) (b : Byte) (s : State) : State :=
  if rest = 0 then goto (.handler (.put (q ++ [b]))) s
  else goto (.handler (.bytesOut rest (q ++ [b]) (.dp2 .req))) s

/-- SEQ stands in `dataOutBytes` after the bytes `q`, before the first of `rest` more, and the host rests. -/
structure State.BeforeReceiving (rest : Nat) (q : List Byte) (s : State) : Prop extends s.ReadyForByte .fromHost where
  seq : s.seq = .handler (.bytesOut rest q (.dp2 .req))
  receives : handlerMayStandAt (fetched s) (.bytesOut rest q (.dp2 .req)) = true

theorem seqStep_bytesOut {s : State} {rest : Nat} {q : List Byte} {p : DataPos}
    (hs : s.seq = .handler (.bytesOut rest q p)) (hi : handlerMayStandAt (fetched s) (.bytesOut rest q p) = true) :
    seqStep s = bytesOutPhase rest q p s := by
  have hstep : seqStep s = exec (fetched s) s := by simp only [seqStep, hs, dispatchStep]
  exact hstep.trans (exec_bytesOut hs hi)

theorem State.BeforeReceiving.movesByte {rest : Nat} {q : List Byte} {s : State}
    (h : s.BeforeReceiving (rest + 1) q) :
    s.MovesByte .fromHost 0 (fun w => .handler (.bytesOut (rest + 1) q (.dp2 w))) (bytesOutOver rest q) := by
  have hstep (w r o l) := seqStep_bytesOut (s := s.inByte (.handler (.bytesOut (rest + 1) q (.dp2 w))) r o l) rfl
    ((mayStandAt_bytesOut _ _ _ _ _ _ _).trans h.receives)
  refine ⟨fun hw => ?more, fun hw => ?done, fun c u => ?ackDown⟩
  case more => simp only [hstep, bytesOutPhase, readByteStep, hw]
  case done => simp only [hstep, bytesOutPhase, readByteStep, hw, bytesOutOver, hsStart]
  case ackDown => cases rest <;> rfl

/-- The state before the next byte, when `b` has been received. -/
theorem State.BeforeReceiving.next {rest : Nat} {q : List Byte} {s : State} (h : s.BeforeReceiving (rest + 2) q)
    (b : Byte) :
    { s with
      seq := .handler (.bytesOut (rest + 1) (q ++ [b]) (.dp2 .req))
      host := { s.host with db := some b } }.BeforeReceiving (rest + 1) (q ++ [b]) where
  flag := h.flag
  ack := h.ack
  req := h.req
  bus := h.bus
  seq := rfl
  receives := (mayStandAt_bytesOut _ _ _ _ _ _ _).trans h.receives

/-- The rounds of a string from the host: its bytes follow those received before, in the order sent (R208). -/
theorem State.BeforeReceiving.play_giveRounds {q : List Byte} {s : State} (ps : List (Nat × Byte))
    (h : s.BeforeReceiving ps.length q) (hne : ps ≠ []) :
    ∃ x, play (ps.flatMap fun p => giveRound p.1 p.2) s =
      ([], .next (goto (.handler (.put (q ++ ps.map Prod.snd))) { s with host := { s.host with db := x } })) := by
  induction ps generalizing s q with
  | nil => exact absurd rfl hne
  | cons p ps ih =>
    have hround := h.movesByte.play_giveRound h.toReadyForByte h.seq p.1 p.2
    cases ps with
    | nil => exact ⟨some p.2, play_append hround rfl⟩
    | cons p' ps =>
      obtain ⟨x, hrest⟩ := ih (h.next p.2) (by simp)
      rw [List.append_assoc] at hrest
      exact ⟨x, play_append hround hrest⟩

/-- Settles O18: the flags, then a round per byte, the last of which leaves the `metaPut` of all bytes next. -/
theorem byteStringFromHost : Obligations.ByteStringFromHost := by
  intro s ps hs hp hf ha
  have hne : ps ≠ [] := fun h => hs.receive _ _ _ hp (by rw [h]; rfl)
  have hreq : s.out.req = false := by rw [hs.req, hp]; rfl
  have hphase : s.phase = .dataOut := by simpa [hp, Seq.phases, HandlerPos.phases] using hs.phase
  have hflags := (seqStep_bytesOut hp (hs.handler _ hp)).trans (dataFlags_of_no_req .fromHost _ hreq)
  have hstart : { s with
      out := ⟨s.out.bsy, false, false, false, false⟩
      dbDir := .input
      seq := .handler (.bytesOut ps.length [] (.dp2 .req)) }.BeforeReceiving ps.length [] :=
    ⟨⟨hf, ha, rfl, rfl⟩, rfl, (mayStandAt_bytesOut _ _ _ _ _ _ _).trans (hs.handler _ hp)⟩
  obtain ⟨x, hrounds⟩ := hstart.play_giveRounds ps hne
  exact ⟨_, play_seq hflags hrounds, rfl, hphase, rfl, hf, rfl⟩

end Sys2Proof.Machine
end

section
/-! PROOF. The Signal Layer (R130 to R136): a pin's level is the inverted logical line, and the bus pins carry the
complement of the driving side's byte. -/

namespace Sys2Proof.Machine

/-! ### Lines -/

/-- The host drives RST, SEL, ACK and ATN, so `setLine` refuses them (U5). -/
theorem setLine_of_host_line {l : Line} (hl : l ∈ [Line.rst, .sel, .ack, .atn]) (a : Bool) (s : State) :
    setLine l a s = .refused .setLineOfHost := by
  cases l with
  | rst | sel | ack | atn => rfl
  | bsy | req | msg | cd | io => simp at hl

/-- Settles O7: a target-driven line writes its own field of `OUT`, a host-driven one is refused. -/
theorem setLineWritesOneLine : Obligations.SetLineWritesOneLine :=
  fun a s => ⟨rfl, rfl, rfl, rfl, rfl, fun _ hl => setLine_of_host_line hl a s⟩

/-- A line that was set reads back as it was set (R131, R132). -/
theorem readLine_of_setLine {l : Line} {a : Bool} {s t : State} (h : setLine l a s = .next t) :
    readLine l t = a := by
  cases l with
  | rst | sel | ack | atn => cases h
  | bsy | req | msg | cd | io => cases h; rfl

/-- Every pin stands at the level of the line as it is read, whichever side drives it (R90, R132). -/
@[simp] theorem lineLevel_pins (l : Line) (s : State) : (pins s).lineLevel l = level (readLine l s) := by
  cases l <;> rfl

/-! ### The data bus -/

/-- A bus that only the target drives carries the complement of its latch (R91). -/
theorem busWires_of_output {s : State} (hd : s.dbDir = .output) (hb : s.host.db = none) :
    busWires s = .driven (~~~ s.dbOut) := by
  simp only [busWires, hd, hb]

/-- While the bus is input, a driven bus carries the complement of the host's byte (R91). -/
theorem busWires_of_input_eq_driven {s : State} {p : Byte} (hd : s.dbDir = .input) (h : busWires s = .driven p) :
    ∃ b, s.host.db = some b ∧ p = ~~~ b := by
  cases hb : s.host.db with
  | none => simp [busWires, hd, hb] at h
  | some b => exact ⟨b, rfl, by simpa [busWires, hd, hb] using h.symm⟩

/-- While the bus is input, the byte read is the one the host drives (R135). -/
theorem readDataBus_of_input {s : State} {b : Byte} (hd : s.dbDir = .input) (hb : s.host.db = some b) :
    readDataBus s = b := by
  simp only [readDataBus, hd, hb, Option.getD_some]

/-! ### The inversion law -/

/-- Settles O8: each clause is the inversion at the pins of what the lines read and of the byte the bus carries. -/
theorem inversionLaw : Obligations.InversionLaw := by
  refine ⟨fun l a s t h => ?lineSet, fun b s hb => ?byteOut, fun p s hd hp => ?byteIn, fun l s => ?lineRead⟩
  case lineSet => rw [lineLevel_pins, readLine_of_setLine h, level]
  case byteOut => exact busWires_of_output rfl hb
  case byteIn =>
    obtain ⟨b, hb, rfl⟩ := busWires_of_input_eq_driven hd hp
    rw [readDataBus_of_input hd hb, BitVec.not_not]
  case lineRead => rw [lineLevel_pins, level, Bool.not_not]

end Sys2Proof.Machine
end

section
/-! PROOF. The operations of the Handshake Layer: the phase flags (R157), one poll (R151, R155), the steps of `readByte`
and `writeByte` (R152, R153) and of `transferBlock` (R155, R158). -/

namespace Sys2Proof.Machine

/-! ### The phase flags -/

theorem setDataPhaseFlags_of_no_req (f : PhaseFlags) {s : State} (h : s.out.req = false) :
    setDataPhaseFlags f s = .next (driveFlags f s) := by
  simp [setDataPhaseFlags, h]

/-- Settles O9: outside a handshake the four writes of R157 are made, in one step. -/
theorem phaseFlagsAtomic : Obligations.PhaseFlagsAtomic :=
  fun f _ h => setDataPhaseFlags_of_no_req f h

/-! ### A poll -/

/-- The poll that sees the Reset Flag, whatever ACK is (R151, R283). -/
theorem hsStep_wait_flag {dir : XferDir} {bd : Bool} {b : Byte} {s : State} (hf : s.resetFlag = true) :
    hsStep dir bd b .wait s = .more .abort s := by
  simp [hsStep, waitPoll, poll, hf]

/-- The poll that reaches `ACK_POLL_BOUND` ends a bounded wait (R155, R156). -/
theorem hsStep_wait_spent {dir : XferDir} {b : Byte} {s : State} (hf : s.resetFlag = false)
    (ha : s.host.ack = false) (hp : s.cfg.ackPollBound ≤ s.polls + 1) :
    hsStep dir true b .wait s = .more .timeout { s with polls := s.polls + 1 } := by
  simp [hsStep, waitPoll, poll, readLine, countPoll, hf, ha, Nat.not_lt.2 hp]

/-- Settles O10: the flag, then ACK, then the kind of the wait, then the bound, each by the lemma of its poll. -/
theorem pollDecides : Obligations.PollDecides := by
  intro dir bounded b s
  split_ifs with hf ha hb hp
  · exact hsStep_wait_flag hf
  · exact hsStep_wait_ack (Bool.eq_false_of_not_eq_true hf) ha
  · exact hb ▸ hsStep_wait_unbounded (Bool.eq_false_of_not_eq_true hf) (Bool.eq_false_of_not_eq_true ha)
  · rw [Bool.not_eq_false] at hb
    exact hb ▸ hsStep_wait_vain (Bool.eq_false_of_not_eq_true hf) (Bool.eq_false_of_not_eq_true ha) hp
  · rw [Bool.not_eq_false] at hb
    exact hb ▸ hsStep_wait_spent (Bool.eq_false_of_not_eq_true hf) (Bool.eq_false_of_not_eq_true ha) (Nat.not_lt.1 hp)

/-! ### A byte -/

/-- Entry of a byte from the host under its precondition (RB1, TB2). -/
theorem hsStep_req_of_input (bd : Bool) (b : Byte) {s : State} (hd : s.dbDir = .input) (hr : s.out.req = false) :
    hsStep .fromHost bd b .req s = .more .wait (raiseReq bd s) := by
  simp [hsStep, startRead, hd, hr]

/-- Entry of a byte to the host under its precondition (WB0, TB1). -/
theorem hsStep_idle_of_output (bd : Bool) (b : Byte) {s : State} (hd : s.dbDir = .output) (hr : s.out.req = false) :
    hsStep .toHost bd b .idle s = .more .drive (writeDataBus b s) := by
  simp [hsStep, startWrite, hd, hr]

/-- Settles O11: the entries and the sample have conditions, and a lemma each; the other steps have none. -/
theorem byteHandshakeSteps : Obligations.ByteHandshakeSteps :=
  fun w _ => ⟨fun hd hr => hsStep_req_of_input false 0 hd hr, rfl, fun _ hd hdb => hsStep_sample hd hdb, rfl,
    fun hd hr => hsStep_idle_of_output false w hd hr, rfl, rfl, rfl⟩

/-! ### A byte of a block -/

theorem blockMove_of_more {dir : XferDir} {w w' : Hs} {s u : State} (hn : s.n < blockSize)
    (h : hsStep dir true (s.buf.read s.n) w s = .more w' u) : blockMove dir w s = .more w' u := by
  simp [blockMove, Nat.not_le.2 hn, h]

theorem blockMove_of_done {dir : XferDir} {w : Hs} {b : Byte} {s u : State} (hn : s.n < blockSize)
    (h : hsStep dir true (s.buf.read s.n) w s = .done b u) : blockMove dir w s = byteDone dir b u := by
  simp [blockMove, Nat.not_le.2 hn, h]

theorem blockMove_of_failed {dir : XferDir} {w : Hs} {s u : State} (hn : s.n < blockSize)
    (h : hsStep dir true (s.buf.read s.n) w s = .failed u) :
    blockMove dir w s = .short (emit (.blockMoved dir u.n) u) := by
  simp [blockMove, Nat.not_le.2 hn, h]

/-- A byte to the host is counted, and the 256th ends the block (TB4, TB1). -/
theorem byteDone_toHost (b : Byte) (s : State) : byteDone .toHost b s =
    if s.n = 255 then .full { s with n := 256, diag := .blockMoved .toHost 256 :: s.diag }
    else .more .idle { s with n := s.n + 1 } := by
  by_cases hn : s.n = 255 <;> simp [byteDone, blockSize, hn, hsStart, emit]

/-- A byte from the host is stored at `buf[n]` and counted, and the 256th ends the block (TB4, TB1). -/
theorem byteDone_fromHost (b : Byte) (s : State) : byteDone .fromHost b s =
    if s.n = 255 then
      .full { s with buf := s.buf.write 255 b, n := 256, diag := .blockMoved .fromHost 256 :: s.diag }
    else .more .req { s with buf := s.buf.write s.n b, n := s.n + 1 } := by
  by_cases hn : s.n = 255 <;> simp [byteDone, blockSize, hn, hsStart, emit]

/-- Settles O12: each step of the block is the engine's step, with `byteDone` where a byte is over. -/
theorem transferBlockSteps : Obligations.TransferBlockSteps := by
  intro s hn
  refine ⟨fun hd hr => ?place, ?drive, fun hd hr => ?ask, ?sent, ?release, fun b hd hdb => ?stored,
    fun dir => ⟨?timeout, ?abort⟩⟩
  case place => exact blockMove_of_more hn (hsStep_idle_of_output true _ hd hr)
  case drive => exact blockMove_of_more hn rfl
  case ask => exact blockMove_of_more hn (hsStep_req_of_input true _ hd hr)
  case sent => exact (blockMove_of_done hn rfl).trans (byteDone_toHost _ _)
  case release => exact blockMove_of_more hn rfl
  case stored => exact (blockMove_of_done hn (hsStep_sample hd hdb)).trans (byteDone_fromHost b s)
  case timeout => exact blockMove_of_more hn rfl
  case abort => exact blockMove_of_failed (u := setReq false s) hn rfl

end Sys2Proof.Machine
end

section
/-! PROOF. No step from a state that meets the invariant is a fault (R130, R161, R288). Inside a handshake primitive
SEQ's step is the engine's step, at whichever label it is taken (`State.Inv.engineStep`); outside one, each label of
R201 and each position of a handler has a next state. So SEQ always goes on. -/

namespace Sys2Proof.Machine

/-! ### SEQ's step inside a handshake primitive -/

/-- What SEQ makes of the engine's step `o` of a byte in direction `dir`: its own step comes to `r`. -/
structure EngineStep (dir : XferDir) (o : HsOut) (r : Outcome) : Prop where
  more : ∀ {w u}, o = .more w u → ∃ q, q.engine = some (dir, w) ∧ r = .next (goto q u)
  done : ∀ {c u}, o = .done c u → ∃ t, r = .next t
  /-- Reset handling at once (R182), or the return of the handler (R225), after a block with the event of R300. -/
  failed : ∀ {u}, o = .failed u → r = .next (gotoReset u) ∨ ∃ d, r = .next (finishXfail { u with diag := d })

theorem seqStep_cmd2 {i : Fin 6} {w : Hs} {s : State} (hs : s.seq = .cmd2 i w) : seqStep s = commandByte i w s := by
  simp only [seqStep, hs]

theorem engineStep_cmd2 {i : Fin 6} {w : Hs} {s : State} (hs : s.seq = .cmd2 i w) :
    EngineStep .fromHost (readByteStep w s) (seqStep s) where
  more h := ⟨.cmd2 i _, rfl, by simp only [seqStep_cmd2 hs, commandByte, h]⟩
  done h := ⟨_, by simp only [seqStep_cmd2 hs, commandByte, h]; rfl⟩
  failed h := .inl (by simp only [seqStep_cmd2 hs, commandByte, h])

theorem seqStep_stat2 {w : Hs} {s : State} (hs : s.seq = .stat2 w) : seqStep s = statusByte w s := by
  simp only [seqStep, hs]

theorem engineStep_stat2 {w : Hs} {s : State} (hs : s.seq = .stat2 w) :
    EngineStep .toHost (writeByteStep s.status w s) (seqStep s) where
  more h := ⟨.stat2 _, rfl, by simp only [seqStep_stat2 hs, statusByte, h]⟩
  done h := ⟨_, by simp only [seqStep_stat2 hs, statusByte, h]; rfl⟩
  failed h := .inl (by simp only [seqStep_stat2 hs, statusByte, h])

theorem seqStep_msg2 {w : Hs} {s : State} (hs : s.seq = .msg2 w) : seqStep s = messageByte w s := by
  simp only [seqStep, hs]

theorem engineStep_msg2 {w : Hs} {s : State} (hs : s.seq = .msg2 w) :
    EngineStep .toHost (writeByteStep s.cfg.msgCommandComplete w s) (seqStep s) where
  more h := ⟨.msg2 _, rfl, by simp only [seqStep_msg2 hs, messageByte, h]⟩
  done h := ⟨_, by simp only [seqStep_msg2 hs, messageByte, h]; rfl⟩
  failed h := .inl (by simp only [seqStep_msg2 hs, messageByte, h])

theorem engineStep_bytesIn {b : Byte} {bs : List Byte} {w : Hs} {s : State}
    (hs : s.seq = .handler (.bytesIn (b :: bs) (.dp2 w)))
    (hi : handlerMayStandAt (fetched s) (.bytesIn (b :: bs) (.dp2 w)) = true) :
    EngineStep .toHost (writeByteStep b w s) (seqStep s) where
  more h := ⟨.handler (.bytesIn (b :: bs) (.dp2 _)), rfl, by simp only [seqStep_bytesIn hs hi, bytesInPhase, h]⟩
  done h := ⟨_, by simp only [seqStep_bytesIn hs hi, bytesInPhase, h]; rfl⟩
  failed {u} h := .inr ⟨u.diag, by simp only [seqStep_bytesIn hs hi, bytesInPhase, h]⟩

theorem engineStep_bytesOut {r : Nat} {q : List Byte} {w : Hs} {s : State}
    (hs : s.seq = .handler (.bytesOut (r + 1) q (.dp2 w)))
    (hi : handlerMayStandAt (fetched s) (.bytesOut (r + 1) q (.dp2 w)) = true) :
    EngineStep .fromHost (readByteStep w s) (seqStep s) where
  more h := ⟨.handler (.bytesOut (r + 1) q (.dp2 _)), rfl, by simp only [seqStep_bytesOut hs hi, bytesOutPhase, h]⟩
  done h := ⟨_, by simp only [seqStep_bytesOut hs hi, bytesOutPhase, h]; rfl⟩
  failed {u} h := .inr ⟨u.diag, by simp only [seqStep_bytesOut hs hi, bytesOutPhase, h]⟩

/-- The step of the engine that fails a block: the short count is returned (R155, R225). -/
theorem State.AtBlock.seqStep_failed {dir : XferDir} {k : Nat} {w : Hs} {s u : State} (h : s.AtBlock dir k w)
    (hw : hsStep dir true (s.buf.read s.n) w s = .failed u) :
    seqStep s = .next (finishXfail (emit (.blockMoved dir u.n) u)) := by
  simp only [seqStep_block h.seq h.moves, blockPhase, blockMove_of_failed h.count hw]

theorem State.AtBlock.engineStep {dir : XferDir} {k : Nat} {w : Hs} {s : State} (h : s.AtBlock dir k w) :
    EngineStep dir (hsStep dir true (s.buf.read s.n) w s) (seqStep s) where
  more hw := ⟨_, rfl, h.seqStep_more hw⟩
  done hw := by
    cases dir with
    | toHost => exact ⟨_, h.seqStep_sent hw⟩
    | fromHost => exact ⟨_, h.seqStep_received hw⟩
  failed hw := .inr ⟨_, h.seqStep_failed hw⟩

theorem State.Inv.atBlock {dir : XferDir} {k : Nat} {w : Hs} {s : State} (h : s.Inv)
    (hs : s.seq = .handler (.block dir k (.dp2 w))) : s.AtBlock dir k w :=
  ⟨hs, h.movesBlocks hs, h.count dir k w hs⟩

/-- Wherever SEQ is inside a primitive, its step is the engine's. -/
theorem State.Inv.engineStep {s : State} {dir : XferDir} {w : Hs} (h : s.Inv) (he : s.seq.engine = some (dir, w)) :
    ∃ bd b, EngineStep dir (hsStep dir bd b w s) (seqStep s) := by
  cases hs : s.seq with
  | cmd2 i w' =>
    obtain ⟨rfl, rfl⟩ : .fromHost = dir ∧ w' = w := by simpa [hs, Seq.engine] using he
    exact ⟨_, _, engineStep_cmd2 hs⟩
  | stat2 w' =>
    obtain ⟨rfl, rfl⟩ : .toHost = dir ∧ w' = w := by simpa [hs, Seq.engine] using he
    exact ⟨_, _, engineStep_stat2 hs⟩
  | msg2 w' =>
    obtain ⟨rfl, rfl⟩ : .toHost = dir ∧ w' = w := by simpa [hs, Seq.engine] using he
    exact ⟨_, _, engineStep_msg2 hs⟩
  | handler k =>
    cases k with
    | block dir' j p =>
      obtain ⟨w', rfl⟩ : ∃ w', p = .dp2 w' := by cases p <;> simp [hs, Seq.engine] at he ⊢
      obtain ⟨rfl, rfl⟩ : dir' = dir ∧ w' = w := by simpa [hs, Seq.engine] using he
      exact ⟨_, _, (h.atBlock hs).engineStep⟩
    | bytesIn rest p =>
      obtain ⟨w', rfl⟩ : ∃ w', p = .dp2 w' := by cases p <;> simp [hs, Seq.engine] at he ⊢
      obtain ⟨rfl, rfl⟩ : .toHost = dir ∧ w' = w := by simpa [hs, Seq.engine] using he
      obtain ⟨b, bs, rfl⟩ := List.exists_cons_of_ne_nil (h.send _ _ hs)
      exact ⟨_, _, engineStep_bytesIn hs (h.handler _ hs)⟩
    | bytesOut rest q p =>
      obtain ⟨w', rfl⟩ : ∃ w', p = .dp2 w' := by cases p <;> simp [hs, Seq.engine] at he ⊢
      obtain ⟨rfl, rfl⟩ : .fromHost = dir ∧ w' = w := by simpa [hs, Seq.engine] using he
      obtain ⟨r, rfl⟩ := Nat.exists_eq_succ_of_ne_zero (h.receive _ _ _ hs)
      exact ⟨_, _, engineStep_bytesOut hs (h.handler _ hs)⟩
    | _ => simp [hs, Seq.engine] at he
  | _ => simp [hs, Seq.engine] at he

/-- The preconditions of R161 are part of the invariant, so a primitive goes on. -/
theorem State.Inv.seqStep_next_of_engine {s : State} {dir : XferDir} {w : Hs} (h : s.Inv)
    (he : s.seq.engine = some (dir, w)) : ∃ t, seqStep s = .next t := by
  obtain ⟨bd, b, hstep⟩ := h.engineStep he
  cases ho : hsStep dir bd b w s with
  | more w' u =>
    obtain ⟨q, -, hq⟩ := hstep.more ho
    exact ⟨_, hq⟩
  | done c u => exact hstep.done ho
  | failed u =>
    obtain hq | ⟨d, hq⟩ := hstep.failed ho
    · exact ⟨_, hq⟩
    · exact ⟨_, hq⟩
  | fault f =>
    have hreq : s.out.req = w.holdsReq := h.req.trans (holdsReq_of_engine he)
    exact absurd ho (hsStep_ne_fault hreq (h.xfer _ _ he) f)

/-! ### SEQ's step outside the primitives -/

/-- Every handler has a first step. -/
theorem exec_next_of_disp (i : Instr) {s : State} (hs : s.seq = .disp) : ∃ t, exec i s = .next t := by
  cases i with
  | testUnitReady f => exact ⟨_, by simp only [exec, execTestUnitReady, readinessCheck, hs]; rfl⟩
  | rezeroUnit f => exact ⟨_, by simp only [exec, execRezeroUnit, readinessCheck, hs]; rfl⟩
  | requestSense f => exact ⟨_, by simp only [exec, execRequestSense, hs]; rfl⟩
  | format f => exact ⟨_, by simp only [exec, execFormat, metaCommand, hs]; rfl⟩
  | read6 f => exact ⟨_, by simp only [exec, execRead6, hs]; rfl⟩
  | write6 f => exact ⟨_, by simp only [exec, execWrite6, hs]; rfl⟩
  | seek f => exact ⟨_, by simp only [exec, execSeek, readinessCheck, hs]; rfl⟩
  | translate f => exact ⟨_, by simp only [exec, execTranslate, hs]; rfl⟩
  | inquiry f => exact ⟨_, by simp only [exec, execInquiry, hs]; rfl⟩
  | modeSelect f =>
    by_cases hlen : parameterLength f = 0
    · exact ⟨_, by simp only [exec, execModeSelect, hs, hlen, if_true]; rfl⟩
    · exact ⟨_, by simp only [exec, execModeSelect, hs, hlen, if_false]; rfl⟩
  | modeSense f => exact ⟨_, by simp only [exec, execModeSense, hs]; rfl⟩
  | startStop f => exact ⟨_, by simp only [exec, execStartStop, metaCommand, hs]; rfl⟩
  | verify f => exact ⟨_, by simp only [exec, execVerify, hs]; rfl⟩
  | select f => exact ⟨_, by simp only [exec, execSelect, metaCommand, hs]; rfl⟩
  | fcodeRead f => exact ⟨_, by simp only [exec, execFcodeRead, vendorIn, hs]; rfl⟩
  | fcodeWrite f => exact ⟨_, by simp only [exec, execFcodeWrite, vendorOut, hs]; rfl⟩
  | vSense f => exact ⟨_, by simp only [exec, execVSense, vendorIn, hs]; rfl⟩
  | vSelect f => exact ⟨_, by simp only [exec, execVSelect, vendorOut, hs]; rfl⟩
  | vPath f => exact ⟨_, by simp only [exec, execVPath, vendorOut, hs]; rfl⟩
  | vInfo f => exact ⟨_, by simp only [exec, execVInfo, vendorIn, hs]; rfl⟩
  | vRead f => exact ⟨_, by simp only [exec, execVRead, vendorIn, hs]; rfl⟩
  | illegal op f => exact ⟨_, by simp only [exec, execIllegal, hs]; rfl⟩

/-- Every handler that has a storage call for a block makes it. -/
theorem exec_next_of_call {i : Instr} {s : State} {k : Nat} (hs : s.seq = .handler (.call k))
    (hi : handlerMayStandAt i (.call k) = true) : ∃ t, exec i s = .next t := by
  cases i with
  | read6 f => exact ⟨_, by simp only [exec, execRead6, hs]; rfl⟩
  | write6 f => exact ⟨_, by simp only [exec, execWrite6, hs]; rfl⟩
  | verify f => exact ⟨_, by simp only [exec, execVerify, hs]; rfl⟩
  | fcodeWrite f => exact ⟨_, by simp only [exec, execFcodeWrite, vendorOut, hs]; rfl⟩
  | vSelect f => exact ⟨_, by simp only [exec, execVSelect, vendorOut, hs]; rfl⟩
  | vPath f => exact ⟨_, by simp only [exec, execVPath, vendorOut, hs]; rfl⟩
  | _ => cases hi

/-- The one handler that stores a byte string makes its call. -/
theorem exec_next_of_put {i : Instr} {s : State} {q : List Byte} (hs : s.seq = .handler (.put q))
    (hi : handlerMayStandAt i (.put q) = true) : ∃ t, exec i s = .next t := by
  cases i with
  | modeSelect f => exact ⟨_, by simp only [exec, execModeSelect, hs]; rfl⟩
  | _ => cases hi

/-- Outside a handshake REQ is de-asserted, so that the phase flags may be written (R157). -/
theorem State.Inv.req_eq_false {s : State} (h : s.Inv) (he : s.seq.engine = none) : s.out.req = false :=
  h.req.trans (holdsReq_of_engine_none he)

theorem State.Inv.seqStep_next_of_handler {s : State} {k : HandlerPos} (h : s.Inv) (hs : s.seq = .handler k) :
    ∃ t, seqStep s = .next t := by
  have hstep : seqStep s = exec (fetched s) s := by simp only [seqStep, hs, dispatchStep]
  have hi := h.handler k hs
  cases k with
  | call j => exact hstep ▸ exec_next_of_call hs hi
  | put q => exact hstep ▸ exec_next_of_put hs hi
  | block dir j p =>
    cases p with
    | dp0 => exact ⟨_, hstep.trans (exec_block hs hi)⟩
    | dp1 => exact ⟨_, (hstep.trans (exec_block hs hi)).trans (dataFlags_eq _ _ _ (h.req_eq_false (hs ▸ rfl)))⟩
    | dp2 w => exact h.seqStep_next_of_engine (congrArg Seq.engine hs)
  | bytesIn rest p =>
    cases p with
    | dp0 => exact ⟨_, hstep.trans (exec_bytesIn hs hi)⟩
    | dp1 => exact ⟨_, (hstep.trans (exec_bytesIn hs hi)).trans (dataFlags_eq _ _ _ (h.req_eq_false (hs ▸ rfl)))⟩
    | dp2 w => exact h.seqStep_next_of_engine (congrArg Seq.engine hs)
  | bytesOut rest q p =>
    cases p with
    | dp0 => exact ⟨_, hstep.trans (exec_bytesOut hs hi)⟩
    | dp1 => exact ⟨_, (hstep.trans (exec_bytesOut hs hi)).trans (dataFlags_eq _ _ _ (h.req_eq_false (hs ▸ rfl)))⟩
    | dp2 w => exact h.seqStep_next_of_engine (congrArg Seq.engine hs)

theorem commandDone_next (s : State) : ∃ t, commandDone s = .next t := by
  obtain ⟨-, hc⟩ | ⟨-, -, hc⟩ | ⟨-, -, hc⟩ := commandDone_cases s
  · exact ⟨_, hc⟩
  · exact hc ▸ exec_next_of_disp (fetched s) (goto_seq _ s)
  · exact ⟨_, hc⟩

/-! ### No agent's step is a fault -/

/-- Under the invariant SEQ always goes on. -/
theorem State.Inv.seqStep_next {s : State} (h : s.Inv) : ∃ t, seqStep s = .next t := by
  cases hs : s.seq with
  | bf1 => exact ⟨_, by simp only [seqStep, hs]; rfl⟩
  | sel1 => exact ⟨_, by simp only [seqStep, hs]; rfl⟩
  | sel2 => exact ⟨_, by simp only [seqStep, hs]; rfl⟩
  | sel3 present => exact ⟨_, seqStep_sel3 hs⟩
  | cmd1 => exact ⟨_, (seqStep_cmd1 hs).trans (phaseStart_eq _ _ (h.req_eq_false (hs ▸ rfl)))⟩
  | cmd2 i w => exact h.seqStep_next_of_engine (congrArg Seq.engine hs)
  | cmd3 => exact seqStep_cmd3 hs ▸ commandDone_next s
  | disp =>
    have hstep : seqStep s = exec (fetched s) s := by simp only [seqStep, hs, dispatchStep]
    exact hstep ▸ exec_next_of_disp _ hs
  | handler k => exact h.seqStep_next_of_handler hs
  | disp1 => exact ⟨_, seqStep_disp1 hs⟩
  | stat1 => exact ⟨_, (seqStep_stat1 hs).trans (phaseStart_eq _ _ (h.req_eq_false (hs ▸ rfl)))⟩
  | stat2 w => exact h.seqStep_next_of_engine (congrArg Seq.engine hs)
  | stat3 => exact ⟨_, seqStep_stat3 hs⟩
  | msg1 => exact ⟨_, (seqStep_msg1 hs).trans (phaseStart_eq _ _ (h.req_eq_false (hs ▸ rfl)))⟩
  | msg2 w => exact h.seqStep_next_of_engine (congrArg Seq.engine hs)
  | msg3 => exact ⟨_, seqStep_msg3 hs⟩
  | rel => exact ⟨_, by simp only [seqStep, hs]; rfl⟩
  | rst1 => exact ⟨_, by simp only [seqStep, hs]; rfl⟩
  | rst3 => exact ⟨_, by simp only [seqStep, hs]; rfl⟩

/-- What the host may not do is refused, and is no fault of the block's (R322). -/
theorem hostStep_ne_fault (m : HostMove) (s : State) (f : Fault) : hostStep m s ≠ .fault f := by
  cases m with
  | line l a => simp [hostStep]
  | drive b => cases hd : s.dbDir <;> simp [hostStep, hd]
  | release => simp [hostStep]

/-- Settles O34: SEQ goes on, MON's step is a next state always, and HOST's is one or is refused. -/
theorem noFault : Obligations.NoFault := by
  intro s f hs
  unfold step
  cases nextMove s with
  | seq =>
    obtain ⟨t, ht⟩ := (popMove_inv hs).seqStep_next
    simp [agentStep, ht]
  | mon => simp [agentStep]
  | host m => exact hostStep_ne_fault m _ f

end Sys2Proof.Machine
end

section
/-! PROOF. How an ACK wait ends without ACK: by a true Reset Flag, in BusFree (R150, R154, R159, R272, R285), and in a
block by the poll bound (R155, R156, R160, R273). -/

namespace Sys2Proof.Machine

/-! ### A true Reset Flag -/

/-- Reset handling, begun from `s`, is over in `t` (R199, R200, R285). -/
structure ResetOver (s t : State) : Prop where
  seq : t.seq = .bf1
  phase : t.phase = .busFree
  out : t.out = .released
  dbDir : t.dbDir = .input
  flag : t.resetFlag = false
  lun : t.lunValid = false
  sense : t.sense = Vector.replicate 8 (.cleared s.cfg.senseCodes)
  cdb : t.cdb = s.cdb
  buf : t.buf = s.buf
  curLun : t.curLun = s.curLun
  calls : t.calls = s.calls

/-- Reset handling itself: `RST1`, then `RST3`. -/
theorem play_fromReset {s : State} (hs : s.seq = .rst1) :
    ∃ t, play (List.replicate 2 .seq) s = ([], .next t) ∧ ResetOver s t := by
  have hentry : seqStep s = .next (resetEntry s) := by simp only [seqStep, hs]
  have hreturn : seqStep (resetEntry s) = .next (resetReturn (resetEntry s)) := rfl
  exact ⟨_, play_seq hentry (play_seq hreturn rfl), rfl, rfl, rfl, rfl, rfl, rfl, rfl, rfl, rfl, rfl, rfl⟩

/-- The boundary after `dispatch`, then Reset handling (R181, R190). -/
theorem play_fromReturn {s : State} (hs : s.seq = .disp1) (hf : s.resetFlag = true) :
    ∃ t, play (List.replicate 3 .seq) s = ([], .next t) ∧ ResetOver s t := by
  have hboundary : seqStep s = .next { s with seq := .rst1 } := seqStep_boundary_of_flag hf (by simp [hs])
  obtain ⟨t, hplay, ht⟩ := play_fromReset (s := { s with seq := .rst1 }) rfl
  exact ⟨t, play_seq hboundary hplay, { ht with }⟩

/-- An abort fails the byte, and with it the primitive's caller (R182, R225). -/
theorem play_fromAbort {s : State} {dir : XferDir} (hs : s.Inv) (hf : s.resetFlag = true)
    (he : s.seq.engine = some (dir, .abort)) :
    ∃ k ≤ 4, ∃ t, play (List.replicate k .seq) s = ([], .next t) ∧ ResetOver s t := by
  obtain ⟨bd, b, hstep⟩ := hs.engineStep he
  obtain hnext | ⟨d, hnext⟩ := hstep.failed rfl
  · obtain ⟨t, hplay, ht⟩ := play_fromReset (s := gotoReset (setReq false s)) rfl
    exact ⟨3, by decide, t, play_seq hnext hplay, { ht with }⟩
  · obtain ⟨t, hplay, ht⟩ := play_fromReturn (s := finishXfail { setReq false s with diag := d }) rfl hf
    exact ⟨4, by decide, t, play_seq hnext hplay, { ht with }⟩

/-- The poll that sees the flag, then the abort. -/
theorem play_fromWait {s : State} {dir : XferDir} (hs : s.Inv) (hf : s.resetFlag = true)
    (he : s.seq.engine = some (dir, .wait)) :
    ∃ k ≤ 5, ∃ t, play (List.replicate k .seq) s = ([], .next t) ∧ ResetOver s t := by
  obtain ⟨bd, b, hstep⟩ := hs.engineStep he
  obtain ⟨q, hq, hpoll⟩ := hstep.more (hsStep_wait_flag hf)
  obtain ⟨k, hk, t, hplay, ht⟩ := play_fromAbort (agentStep_inv (m := .seq) hs hpoll) hf hq
  exact ⟨k + 1, by omega, t, play_seq hpoll hplay, { ht with }⟩

/-- Settles O14: poll, abort, at most the handler's return and its boundary, and the two steps of Reset handling. -/
theorem resetEndsEveryWait : Obligations.ResetEndsEveryWait := by
  intro s dir hs hf he
  obtain ⟨k, hk, t, hplay, ht⟩ := play_fromWait hs hf he
  have hsense (l : Lun) : t.sense[l] = ⟨s.cfg.senseCodes.noSense, 0, 0, 0⟩ := by
    simp [ht.sense, SenseRec.cleared, SenseRec.ofCode]
  exact ⟨k, hk, t, hplay, ht.seq, ht.phase, ht.out, ht.dbDir, ht.flag, ht.lun, hsense, ht.cdb, ht.buf, ht.curLun,
    ht.calls⟩

/-! ### A host that never answers -/

/-- SEQ's steps before the first poll of a byte: a byte to the host is placed before REQ (R97). -/
def stepsToPoll (dir : XferDir) : Nat :=
  match dir with
  | .toHost => 2
  | .fromHost => 1

theorem State.Inv.betweenBytes {dir : XferDir} {k : Nat} {s : State} (h : s.Inv)
    (hs : s.seq = .handler (.block dir k (.dp2 (hsStart dir)))) (hf : s.resetFlag = false)
    (ha : s.host.ack = false) : s.BetweenBytes dir k where
  moves := h.movesBlocks hs
  flag := hf
  ack := ha
  req := by rw [h.req, hs]; exact hsStart_holdsReq dir
  bus := h.xfer dir (hsStart dir) (hs ▸ rfl)
  next _ := hs
  full hn := absurd hn (h.count _ _ _ hs).ne

/-- The byte is still going on: the Reset Flag is clear and the count unchanged. -/
structure StillMoving (s t : State) : Prop where
  flag : t.resetFlag = false
  n : t.n = s.n

section
variable {dir : XferDir} {k : Nat} {s : State}

/-- Up to its first poll a byte needs no host. -/
theorem State.BetweenBytes.play_toPoll (h : s.BetweenBytes dir k) (hn : s.n < blockSize) :
    ∃ o, play (List.replicate (stepsToPoll dir) .seq) s = ([], .next ({ s with dbOut := o }.awaiting dir k 0)) := by
  cases dir with
  | toHost => exact ⟨_, h.play_place hn⟩
  | fromHost => exact ⟨_, h.play_ask hn⟩

theorem State.BetweenBytes.play_beforePoll (h : s.BetweenBytes dir k) (hn : s.n < blockSize) {j : Nat}
    (hj : j < stepsToPoll dir) : ∃ t, play (List.replicate j .seq) s = ([], .next t) ∧ StillMoving s t := by
  have hstart : StillMoving s s := ⟨h.flag, rfl⟩
  cases j with
  | zero => exact ⟨s, rfl, hstart⟩
  | succ j =>
    obtain ⟨rfl, rfl⟩ : dir = .toHost ∧ j = 0 := by cases dir <;> simp [stepsToPoll] at hj ⊢; omega
    have hplace := hsStep_idle_of_output true (s.buf.read s.n) h.bus h.req
    exact ⟨_, play_seq ((h.atBlock hn).seqStep_more hplace) rfl, { hstart with }⟩

/-- The poll that reaches the bound leads to the step that sets the flag (R155, R156). -/
theorem State.BetweenBytes.play_allPolls (h : s.BetweenBytes dir k) (hn : s.n < blockSize)
    (hb : 1 ≤ s.cfg.ackPollBound) :
    play (List.replicate s.cfg.ackPollBound .seq) (s.awaiting dir k 0) =
      ([], .next (goto (.handler (.block dir k (.dp2 .timeout))) (s.awaiting dir k s.cfg.ackPollBound))) := by
  obtain ⟨d, hd⟩ := Nat.exists_eq_add_of_le' hb
  have hlast := hsStep_wait_spent (dir := dir) (b := s.buf.read s.n) (s := s.awaiting dir k d) h.flag h.ack
    (show s.cfg.ackPollBound ≤ d + 1 by omega)
  rw [hd, List.replicate_succ']
  exact play_append (h.play_polls hn (Nat.zero_add d) (by omega))
    (play_seq ((h.awaiting hn d).seqStep_more hlast) rfl)

theorem State.BetweenBytes.play_upToPolls (h : s.BetweenBytes dir k) (hn : s.n < blockSize)
    (hb : 1 ≤ s.cfg.ackPollBound) {d : Nat} (hd : d ≤ s.cfg.ackPollBound) :
    ∃ t, play (List.replicate d .seq) (s.awaiting dir k 0) = ([], .next t) ∧ StillMoving s t := by
  obtain rfl | hlt := hd.eq_or_lt
  · exact ⟨_, h.play_allPolls hn hb, h.flag, rfl⟩
  · exact ⟨_, h.play_polls hn (Nat.zero_add d) hlt, h.flag, rfl⟩

/-- Through the last poll the flag stays clear. -/
theorem State.BetweenBytes.play_upTo (h : s.BetweenBytes dir k) (hn : s.n < blockSize)
    (hb : 1 ≤ s.cfg.ackPollBound) {j : Nat} (hj : j ≤ stepsToPoll dir + s.cfg.ackPollBound) :
    ∃ t, play (List.replicate j .seq) s = ([], .next t) ∧ StillMoving s t := by
  obtain hlt | hle := Nat.lt_or_ge j (stepsToPoll dir)
  · exact h.play_beforePoll hn hlt
  · obtain ⟨d, rfl⟩ := Nat.exists_eq_add_of_le hle
    obtain ⟨o, hstart⟩ := h.play_toPoll hn
    obtain ⟨t, hpolls, ht⟩ := (h.place o).play_upToPolls hn hb (Nat.add_le_add_iff_left.1 hj)
    exact ⟨t, List.replicate_add .. ▸ play_append hstart hpolls, { ht with }⟩

/-- The block ended with a short count after a time-out (R160, R225). -/
structure TimedOut (s t : State) : Prop where
  flag : t.resetFlag = true
  n : t.n = s.n
  buf : t.buf = s.buf
  out : t.out = s.out
  dbDir : t.dbDir = s.dbDir
  phase : t.phase = s.phase
  seq : t.seq = .disp1
  status : t.status = s.cfg.statusCheckCondition
  calls : t.calls = s.calls

/-- The time-out sets the flag, and the abort after it de-asserts REQ and returns the short count. -/
theorem State.BetweenBytes.play_timeout (h : s.BetweenBytes dir k) (hn : s.n < blockSize) (p : Nat) :
    ∃ t, play [.seq, .seq] (goto (.handler (.block dir k (.dp2 .timeout))) (s.awaiting dir k p)) = ([], .next t) ∧
      TimedOut s t := by
  have hspent : (goto (.handler (.block dir k (.dp2 .timeout))) (s.awaiting dir k p)).AtBlock dir k .timeout :=
    ⟨rfl, h.moves, hn⟩
  exact ⟨_, hspent.play_more rfl fun habort => play_seq (habort.seqStep_failed rfl) rfl,
    rfl, rfl, rfl, h.out_eq, rfl, rfl, rfl, rfl, rfl⟩

/-- Every poll of the bound, then the time-out. -/
theorem State.BetweenBytes.play_stalled (h : s.BetweenBytes dir k) (hn : s.n < blockSize)
    (hb : 1 ≤ s.cfg.ackPollBound) :
    ∃ t, play (List.replicate (stepsToPoll dir + s.cfg.ackPollBound + 2) .seq) s = ([], .next t) ∧
      TimedOut s t := by
  obtain ⟨o, hstart⟩ := h.play_toPoll hn
  obtain ⟨t, hend, ht⟩ := (h.place o).play_timeout hn s.cfg.ackPollBound
  refine ⟨t, ?_, { ht with }⟩
  rw [List.replicate_add, List.replicate_add]
  exact play_append (play_append hstart ((h.place o).play_allPolls hn hb)) hend

end

/-- Settles O13: the flag stays clear through the last poll, and the time-out and the abort follow it. -/
theorem stalledHostTimesOut : Obligations.StalledHostTimesOut := by
  intro s dir k hs hb hp hf ha p
  have hbetween := hs.betweenBytes hp hf ha
  have hn : s.n < blockSize := hs.count _ _ _ hp
  refine ⟨fun j hj => ?polls, ?timeout⟩
  case polls =>
    obtain ⟨t, hplay, ht⟩ := hbetween.play_upTo hn hb hj
    exact ⟨t, hplay, ht.flag, ht.n⟩
  case timeout =>
    obtain ⟨t, hplay, ht⟩ := hbetween.play_stalled hn hb
    exact ⟨t, hplay, ht.flag, ht.n, ht.n.trans_lt hn, ht.buf, ht.out, ht.dbDir, ht.phase, ht.seq, ht.status,
      ht.calls⟩

end Sys2Proof.Machine
end

section
/-! PROOF. The steps of the sequencer in BusFree, Selection and Reset handling (R183, R185, R186, R197, R199, R200). -/

namespace Sys2Proof.Machine

/-! ### SEQ's step at each of these labels -/

theorem seqStep_bf1 {s : State} (hs : s.seq = .bf1) : seqStep s = .next (busFreePoll s) := by
  simp only [seqStep, hs]

theorem seqStep_sel1 {s : State} (hs : s.seq = .sel1) : seqStep s = .next (selectStart s) := by
  simp only [seqStep, hs]

theorem seqStep_sel2 {s : State} (hs : s.seq = .sel2) : seqStep s = .next (selectValidate s) := by
  simp only [seqStep, hs]

theorem seqStep_rel {s : State} (hs : s.seq = .rel) : seqStep s = .next (busRelease s) := by
  simp only [seqStep, hs]

theorem seqStep_rst1 {s : State} (hs : s.seq = .rst1) : seqStep s = .next (resetEntry s) := by
  simp only [seqStep, hs]

theorem seqStep_rst3 {s : State} (hs : s.seq = .rst3) : seqStep s = .next (resetReturn s) := by
  simp only [seqStep, hs]

/-! ### The BusFree poll and Selection -/

/-- The BusFree poll with the flag set (PB1, R283). -/
theorem busFreePoll_of_flag {s : State} (h : s.resetFlag = true) :
    busFreePoll s = { afterReadDataBus s with seq := .rst1 } :=
  boundary_of_flag _ h

/-- The BusFree poll with the flag clear: a match latches the byte tested (R183). -/
theorem busFreePoll_of_no_flag {s : State} (h : s.resetFlag = false) : busFreePoll s =
    if s.host.sel ∧ s.cfg.matchesId (readDataBus s) then
      { afterReadDataBus s with
        selByte := readDataBus s
        phase := .arbSel
        seq := .sel1
        diag := .phaseEntry .arbSel :: s.diag }
    else afterReadDataBus s := by
  refine (boundary_of_no_flag (s := afterReadDataBus s) _ h).trans ?_
  simp only [readLine, Bool.and_eq_true]
  rfl

/-- A read of the bus while it is input: the host's byte, or a draw, which is then spent (R135, U2). -/
theorem readDataBus_eq_of_input {s : State} (hd : s.dbDir = .input) :
    readDataBus s = s.host.db.getD (Config.freeByte s.draws) := by
  simp only [readDataBus, hd]

theorem afterReadDataBus_eq_of_input {s : State} (hd : s.dbDir = .input) :
    afterReadDataBus s = { s with draws := if s.host.db = none then s.draws + 1 else s.draws } := by
  simp only [afterReadDataBus, hd, true_and]

/-- Settles O22: `SEL1` and `SEL2` have no condition; `SEL3` goes past PB2, with each answer of `lunExists`. -/
theorem selectionSteps : Obligations.SelectionSteps := by
  intro s
  refine ⟨fun hs => ?sel1, fun hs => ?sel2, fun hs hf => ?present, fun hs hf => ?absent⟩
  case sel1 => exact seqStep_sel1 hs
  case sel2 => exact seqStep_sel2 hs
  case present => rw [seqStep_sel3 hs, boundary_of_no_flag _ hf]; rfl
  case absent => rw [seqStep_sel3 hs, boundary_of_no_flag _ hf]; rfl

/-! ### BusFree entry and Reset handling -/

/-- Settles O25: the step at `REL`, written out. -/
theorem busFreeEntry : Obligations.BusFreeEntry := fun _ hs => seqStep_rel hs

/-- Settles O26: the step at `RST1`, written out. -/
theorem resetHandlingEntry : Obligations.ResetHandlingEntry := fun _ hs => seqStep_rst1 hs

/-- After MON's step no edge is pending, whether it stepped or found none (R281). -/
theorem monStep_clears (s : State) :
    ∃ f d, monStep s = { s with resetFlag := f, rstPending := false, diag := d } := by
  unfold monStep
  split
  case isTrue => exact ⟨true, _, rfl⟩
  case isFalse hp => exact ⟨s.resetFlag, s.diag, by rw [← Bool.eq_false_of_not_eq_true hp]⟩

/-- Any number of MON's steps: what they may have written, and that one suffices to take the edge. -/
theorem play_mon (j : Nat) (s : State) :
    ∃ f p d, play (List.replicate j .mon) s =
        ([], .next { s with resetFlag := f, rstPending := p, diag := d }) ∧ (1 ≤ j → p = false) := by
  induction j with
  | zero => exact ⟨s.resetFlag, s.rstPending, s.diag, rfl, by simp⟩
  | succ j ih =>
    obtain ⟨f, p, d, hplay, -⟩ := ih
    obtain ⟨f', d', hmon⟩ := monStep_clears { s with resetFlag := f, rstPending := p, diag := d }
    have hlast : play [.mon] { s with resetFlag := f, rstPending := p, diag := d } =
        ([], .next { s with resetFlag := f', rstPending := false, diag := d' }) :=
      play_cons (m := .mon) (congrArg Host.Outcome.next hmon) rfl
    exact ⟨f', false, d', List.replicate_succ' ▸ play_append hplay hlast, fun _ => rfl⟩

/-- Settles O27: what MON writes in between, the flag's clear writes over or Reset handling never reads. -/
theorem resetClearIsLast : Obligations.ResetClearIsLast := by
  intro s j hs
  obtain ⟨f, p, d, hmon, hp⟩ := play_mon j (resetEntry s)
  have hentry : play [.seq] s = ([], .next (resetEntry s)) := play_seq (seqStep_rst1 hs) rfl
  have hreturn := seqStep_rst3 (s := { resetEntry s with resetFlag := f, rstPending := p, diag := d }) rfl
  exact ⟨_, play_append (play_append hentry hmon) (play_seq hreturn rfl), rfl, rfl, rfl, rfl, rfl, rfl, rfl, hp, rfl⟩

end Sys2Proof.Machine

namespace Sys2Proof

open Machine in
/-- Settles O21: the flag first, then SEL with a byte that matches; the bus is input. -/
theorem busFreePoll : Obligations.BusFreePoll := by
  intro b s hs hd hb u
  have hread : readDataBus s = b := (readDataBus_eq_of_input hd).trans hb.symm
  have hafter : afterReadDataBus s = u := afterReadDataBus_eq_of_input hd
  rw [seqStep_bf1 hs]
  split_ifs with hf hsel
  · rw [busFreePoll_of_flag hf, hafter]
  · rw [busFreePoll_of_no_flag (Bool.eq_false_of_not_eq_true hf), hread, hafter, if_pos hsel]
  · rw [busFreePoll_of_no_flag (Bool.eq_false_of_not_eq_true hf), hread, hafter, if_neg hsel]

end Sys2Proof
end

section
/-! PROOF. The boundary PB4 at the start of a data procedure (R181, R205 to R208, R225), and the first step of every
handler. -/

namespace Sys2Proof.Machine

/-- PB4, for each value of the Reset Flag (R181, R225). -/
theorem dataBoundary_eq (dir : XferDir) (k : HandlerPos) (s : State) : dataBoundary dir k s =
    if s.resetFlag then
      { s with
        status := s.cfg.statusCheckCondition
        sense := s.sense.set s.curLun ⟨s.cfg.senseCodes.transportFailure, 0, 0, 0⟩
        seq := .disp1 }
    else
      { s with phase := phaseOfDir dir, seq := .handler k, diag := .phaseEntry (phaseOfDir dir) :: s.diag } := rfl

/-! ### The commands whose first step is a boundary -/

/-- WRITE6, FCODE_WRITE, V_SELECT and V_PATH ask for their first block at once (R231, R242). -/
theorem exec_firstBlock {i : Instr} {f : Fields} {s : State} (hs : s.seq = .disp)
    (hi : i = .write6 f ∨ i = .fcodeWrite f ∨ i = .vSelect f ∨ i = .vPath f) :
    exec i s = .next (dataBoundary .fromHost (.block .fromHost 0 .dp1) (decoded s)) := by
  obtain rfl | rfl | rfl | rfl := hi
  · simp only [exec, execWrite6, hs, blockPhase]
  · simp only [exec, execFcodeWrite, vendorOut, hs, blockPhase]
  · simp only [exec, execVSelect, vendorOut, hs, blockPhase]
  · simp only [exec, execVPath, vendorOut, hs, blockPhase]

/-- MODE SELECT with a parameter list (R236). -/
theorem exec_modeSelect_first {f : Fields} {s : State} (hs : s.seq = .disp) (hlen : f.len.toNat ≠ 0) :
    exec (.modeSelect f) s =
      .next (dataBoundary .fromHost (.bytesOut f.len.toNat [] .dp1) (decoded s)) := by
  simp only [exec, execModeSelect, hs, parameterLength, bytesOutPhase]
  exact if_neg hlen

theorem firstBytesIn_of_ne_nil {bs : List Byte} (h : bs ≠ []) (s : State) :
    firstBytesIn bs s = .next (dataBoundary .toHost (.bytesIn bs .dp1) s) := by
  rw [firstBytesIn, if_neg (by simpa using h)]

/-- REQUEST SENSE always has something to send: an allocation of 0 means 4 (R224). -/
theorem requestSenseBytes_ne_nil (f : Fields) (s : State) : requestSenseBytes f s ≠ [] := by
  have halloc : senseAllocation f ≠ 0 := by
    unfold senseAllocation
    split
    · decide
    · next hlen => exact fun h => hlen (BitVec.toNat_inj.1 h)
  simp [requestSenseBytes, sensePayload, halloc]

theorem exec_requestSense_first {f : Fields} {s : State} (hs : s.seq = .disp) :
    exec (.requestSense f) s =
      .next (dataBoundary .toHost (.bytesIn (requestSenseBytes f s) .dp1) (decoded s)) := by
  simp only [exec, execRequestSense, hs, firstBytesIn_of_ne_nil (requestSenseBytes_ne_nil f s)]

theorem exec_inquiry_first {f : Fields} {s : State} (hs : s.seq = .disp) :
    exec (.inquiry f) s = firstBytesIn (inquiryBytes f s) (decoded s) := by
  simp only [exec, execInquiry, hs]

/-- Settles O58: every command's step there is PB4, at `SQ_DISPATCH` after the event of R300. -/
theorem dataPhaseBoundary : Obligations.DataPhaseBoundary := by
  intro i f k' p s hpos seen
  have hinside {k : HandlerPos} (hs : s.seq = .handler k) : s = { s with diag := seen } := by
    rw [show seen = s.diag from if_neg (by simp [hs])]
  have hdisp (hs : s.seq = .disp) : decoded s = { s with diag := seen } := by
    rw [show seen = .commandDecoded s.cdb :: s.diag from if_pos hs]
    rfl
  obtain ⟨dir, u, hexec, hu, rfl⟩ : ∃ dir u, exec i s = .next (dataBoundary dir k' u) ∧
      u = { s with diag := seen } ∧ phaseOfDir dir = p := by
    obtain ⟨j, hs, hi, rfl, rfl⟩ | ⟨j, hs, hi, rfl, rfl⟩ | ⟨r, hs, hi, rfl, rfl⟩ | ⟨hs, hi, rfl, rfl⟩ |
      ⟨hs, rfl, hlen, rfl, rfl⟩ | ⟨hs, rfl, rfl, rfl⟩ | ⟨hs, rfl, hne, rfl, rfl⟩ := hpos
    · exact ⟨.toHost, s, exec_block hs hi, hinside hs, rfl⟩
    · exact ⟨.fromHost, s, exec_block hs hi, hinside hs, rfl⟩
    · exact ⟨.toHost, s, exec_bytesIn hs hi, hinside hs, rfl⟩
    · exact ⟨.fromHost, _, exec_firstBlock hs hi, hdisp hs, rfl⟩
    · exact ⟨.fromHost, _, exec_modeSelect_first hs (mt (BitVec.toNat_inj (y := 0)).1 hlen), hdisp hs, rfl⟩
    · exact ⟨.toHost, _, exec_requestSense_first hs, hdisp hs, rfl⟩
    · exact ⟨.toHost, _, (exec_inquiry_first hs).trans (firstBytesIn_of_ne_nil hne _), hdisp hs, rfl⟩
  rw [hexec, hu, dataBoundary_eq]

end Sys2Proof.Machine
end

section
/-! PROOF. The byte phases of the sequencer against a host that answers: Command, Status and MessageIn
(R187, R192, R194, R197). Each of their bytes is a byte of `readByte` or `writeByte`, played by the lemmas for one. -/

namespace Sys2Proof.Machine

/-! ### Command -/

/-- The bytes up to and with the one just written are those before it, and it (R187). -/
theorem take_toList_write (c : Cdb) (i : Fin 6) (b : Byte) :
    (c.write i b).toList.take (i + 1) = c.toList.take i ++ [b] := by
  fin_cases i <;> rfl

theorem cdbByteRead_next {i : Fin 6} (h : i.val + 1 < 6) (b : Byte) (s : State) :
    cdbByteRead i b s = { s with cdb := s.cdb.write i b, seq := .cmd2 ⟨i + 1, h⟩ .req } := dif_pos h

theorem cdbByteRead_last {i : Fin 6} (h : ¬ i.val + 1 < 6) (b : Byte) (s : State) :
    cdbByteRead i b s = { s with cdb := s.cdb.write i b, seq := .cmd3 } := dif_neg h

theorem movesByte_cmd2 (i : Fin 6) (s : State) : s.MovesByte .fromHost 0 (.cmd2 i) (cdbByteRead i) := by
  have hstep (w r o l) := seqStep_cmd2 (s := s.inByte (.cmd2 i w) r o l) rfl
  refine ⟨fun hw => ?more, fun hw => ?done, fun c u => ?ackDown⟩
  case more => simp only [hstep, commandByte, readByteStep, hw]
  case done => simp only [hstep, commandByte, readByteStep, hw]
  case ackDown =>
    by_cases h : i.val + 1 < 6
    · simp only [cdbByteRead_next h]; rfl
    · simp only [cdbByteRead_last h]; rfl

/-- The rounds of the CDB bytes from byte `i` on: they follow those read before, in the order sent. -/
theorem play_cdbBytes {i : Fin 6} {s : State} (h : s.ReadyForByte .fromHost) (hs : s.seq = .cmd2 i .req)
    (ps : List (Nat × Byte)) (hlen : i + ps.length = 6) :
    ∃ c x, play (ps.flatMap fun p => giveRound p.1 p.2) s =
        ([], .next { s with cdb := c, seq := .cmd3, host := { s.host with db := x } }) ∧
      c.toList = s.cdb.toList.take i ++ ps.map Prod.snd := by
  induction ps generalizing i s with
  | nil => exact absurd hlen i.isLt.ne
  | cons p ps ih =>
    have hround := (movesByte_cmd2 i s).play_giveRound h hs p.1 p.2
    have htake := take_toList_write s.cdb i p.2
    rw [List.length_cons] at hlen
    by_cases hi : i.val + 1 < 6
    · rw [cdbByteRead_next hi] at hround
      obtain ⟨c, x, hrest, hc⟩ := ih (i := ⟨i + 1, hi⟩) (s := { s with
        cdb := s.cdb.write i p.2
        seq := .cmd2 ⟨i + 1, hi⟩ .req
        host := { s.host with db := some p.2 } }) ⟨h.flag, h.ack, h.req, h.bus⟩ rfl (by simp only; omega)
      refine ⟨c, x, play_append hround hrest, hc.trans ?_⟩
      rw [htake, List.append_assoc]
      rfl
    · obtain rfl : ps = [] := List.length_eq_zero_iff.1 (by omega)
      rw [cdbByteRead_last hi] at hround
      refine ⟨s.cdb.write i p.2, some p.2, play_append hround rfl, htake ▸ ?_⟩
      rw [List.take_of_length_le]
      simp only [Cdb.toList, List.length_cons, List.length_nil]
      omega

/-- Settles O19: `CMD1` drives the triple of the phase, and the six rounds start at byte 0. -/
theorem commandPhaseReadsSixBytes : Obligations.CommandPhaseReadsSixBytes := by
  intro s ps hs hseq hf ha hlen
  have hreq : s.out.req = false := hs.req_eq_false (hseq ▸ rfl)
  have hphase : s.phase = .command := by simpa [hseq, Seq.phases] using hs.phase
  have hflags := (seqStep_cmd1 hseq).trans (phaseStart_eq _ _ hreq)
  rw [driveFlags_of_no_req _ hreq] at hflags
  obtain ⟨c, x, hrounds, hc⟩ := play_cdbBytes (i := 0) (s := { s with
    out := ⟨s.out.bsy, false, false, true, false⟩
    dbDir := .input
    seq := .cmd2 0 .req }) ⟨hf, ha, rfl, rfl⟩ rfl ps (by simp [hlen])
  exact ⟨_, play_seq hflags hrounds, hc, rfl, hphase, rfl, rfl, rfl, rfl⟩

/-! ### Status and MessageIn -/

theorem movesByte_stat2 (s : State) : s.MovesByte .toHost s.status .stat2 (fun _ => goto .stat3) := by
  have hstep (w r o l) : seqStep (s.inByte (.stat2 w) r o l) = statusByte w (s.inByte (.stat2 w) r o l) :=
    seqStep_stat2 rfl
  have hstatus (q r o l) : (s.inByte q r o l).status = s.status := rfl
  refine ⟨fun hw => ?more, fun hw => ?done, fun _ _ => rfl⟩
  case more => simp only [hstep, statusByte, writeByteStep, hstatus, hw]
  case done => simp only [hstep, statusByte, writeByteStep, hstatus, hw]

theorem movesByte_msg2 (s : State) :
    s.MovesByte .toHost s.cfg.msgCommandComplete .msg2 (fun _ => goto .msg3) := by
  have hstep (w r o l) : seqStep (s.inByte (.msg2 w) r o l) = messageByte w (s.inByte (.msg2 w) r o l) :=
    seqStep_msg2 rfl
  have hcfg (q r o l) : (s.inByte q r o l).cfg = s.cfg := rfl
  refine ⟨fun hw => ?more, fun hw => ?done, fun _ _ => rfl⟩
  case more => simp only [hstep, messageByte, writeByteStep, hcfg, hw]
  case done => simp only [hstep, messageByte, writeByteStep, hcfg, hw]

/-- Neither a reset nor a handshake is under way, and the host drives no byte. -/
structure State.BusQuiet (s : State) : Prop where
  flag : s.resetFlag = false
  ack : s.host.ack = false
  req : s.out.req = false
  db : s.host.db = none

/-- A phase of one byte to the host: the flags of the phase, then the byte, which the host samples however late it
answers (R192, R194). -/
theorem play_phaseByte {p : Phase} {b : Byte} {q : Hs → Seq} {q' : Seq} {s : State} (h : s.BusQuiet)
    (hs : seqStep s = phaseStart p (q .idle) s) (hp : (phaseFlags p).inputNotOutput = true)
    (hm : (goto (q .idle) (driveFlags (phaseFlags p) s)).MovesByte .toHost b q (fun _ => goto q')) (d : Nat) :
    play ([.seq] ++ takeRound d) s =
      ([b], .next { driveFlags (phaseFlags p) s with dbOut := b, seq := q' }) := by
  have hbus : dirOfIo (phaseFlags p).inputNotOutput = .output := by rw [hp]; rfl
  have hstart : (goto (q .idle) (driveFlags (phaseFlags p) s)).ReadyForByte .toHost := ⟨h.flag, h.ack, h.req, hbus⟩
  exact play_seq (hs.trans (phaseStart_eq _ _ h.req)) (hm.play_takeRound hstart rfl h.db d)

/-- `STAT3` with the flag clear (R193). -/
theorem play_toMessage {s : State} (hs : s.seq = .stat3) (hf : s.resetFlag = false) :
    play [.seq] s = ([], .next (goto .msg1 (setPhase .messageIn s))) :=
  play_seq (by rw [seqStep_stat3 hs, boundary_of_no_flag _ hf]) rfl

/-- `MSG3` with the flag clear, then `REL` (R194, R197). -/
theorem play_toBusFree {s : State} (hs : s.seq = .msg3) (hf : s.resetFlag = false) :
    play [.seq, .seq] s = ([], .next (busRelease (goto .rel s))) :=
  play_seq (by rw [seqStep_msg3 hs, boundary_of_no_flag _ hf]) (play_seq (seqStep_rel rfl) rfl)

/-- Settles O20: a round for each of the two bytes, the boundary between them, and the release. -/
theorem statusMessageRelease : Obligations.StatusMessageRelease := by
  intro s d e hs hseq hf ha hdb
  have hquiet : s.BusQuiet := ⟨hf, ha, hs.req_eq_false (hseq ▸ rfl), hdb⟩
  have hstatus := play_phaseByte hquiet (seqStep_stat1 hseq) rfl (movesByte_stat2 _) d
  have hboundary := play_append hstatus (play_toMessage rfl hf)
  have hquiet' : (goto .msg1 (setPhase .messageIn { driveFlags (phaseFlags .status) s with
      dbOut := s.status
      seq := .stat3 })).BusQuiet := ⟨hf, ha, hquiet.req, hdb⟩
  have hmessage := play_append hboundary (play_phaseByte hquiet' (seqStep_msg1 rfl) rfl (movesByte_msg2 _) e)
  have hall := play_append hmessage (play_toBusFree rfl hf)
  simp only [List.append_assoc, List.cons_append, List.nil_append] at hall ⊢
  exact ⟨_, hall, rfl, rfl, rfl, rfl, rfl, rfl, rfl⟩

end Sys2Proof.Machine
end

section
/-! PROOF. The phase register moves only as the transition table allows (R180, R195, R202). Inside a handshake no step
writes it; elsewhere SEQ's next state is written out, for the first step of a handler in one lemma. -/

namespace Sys2Proof.Machine

/-! ### Moves of the phase register -/

/-- A step may take the phase register from `p` to `q`: it leaves it, or the table of R202 has the transition. -/
def PhaseMoves (p q : Phase) : Prop := q = p ∨ phaseStepAllowed p q = true

theorem phaseMoves_of_eq {p q : Phase} (h : q = p) : PhaseMoves p q := .inl h

/-- BusFree may be entered from every phase. -/
theorem phaseMoves_busFree (p : Phase) : PhaseMoves p .busFree := .inr (by cases p <;> rfl)

/-- A data phase may follow Command and either data phase. -/
theorem phaseMoves_data {p : Phase} (h : p ∈ dispatchPhases) (dir : XferDir) : PhaseMoves p (phaseOfDir dir) := by
  simp only [dispatchPhases, List.mem_cons, List.not_mem_nil, or_false] at h
  obtain rfl | rfl | rfl := h <;> cases dir <;> exact .inr rfl

/-- Status may follow Command and either data phase. -/
theorem phaseMoves_status {p : Phase} (h : p ∈ dispatchPhases) : PhaseMoves p .status := by
  simp only [dispatchPhases, List.mem_cons, List.not_mem_nil, or_false] at h
  obtain rfl | rfl | rfl := h <;> exact .inr rfl

/-- A boundary leaves the phase to Reset handling, or moves it as what follows does (R181). -/
theorem phaseMoves_boundary {k : State → State} {s : State} (h : PhaseMoves s.phase (k s).phase) :
    PhaseMoves s.phase (boundary k s).phase := by
  cases hf : s.resetFlag with
  | true => exact phaseMoves_of_eq (by rw [boundary_of_flag k hf])
  | false => rwa [boundary_of_no_flag k hf]

/-- PB4 enters the data phase, or the handler returns in the phase it was in. -/
theorem phaseMoves_dataBoundary {s : State} (h : s.phase ∈ dispatchPhases) (dir : XferDir) (k : HandlerPos) :
    PhaseMoves s.phase (dataBoundary dir k s).phase := by
  rw [dataBoundary_eq]
  split
  · exact phaseMoves_of_eq rfl
  · exact phaseMoves_data h dir

/-! ### The steps of a handler -/

/-- The first step of every handler: it leaves the bus and the phase alone, or is PB4. -/
theorem exec_of_disp (i : Instr) {s : State} (hs : s.seq = .disp) :
    ∃ t, exec i s = .next t ∧ (Rested i (decoded s) t ∨ ∃ dir k, t = dataBoundary dir k (decoded s)) := by
  have hreadiness := readinessCall_rested i (decoded s)
  have hput (kind : MetaKind) := metaPutCall_rested i kind [] (decoded s)
  cases i with
  | testUnitReady f => exact ⟨_, by simp only [exec, execTestUnitReady, readinessCheck, hs], .inl hreadiness⟩
  | rezeroUnit f => exact ⟨_, by simp only [exec, execRezeroUnit, readinessCheck, hs], .inl hreadiness⟩
  | requestSense f => exact ⟨_, exec_requestSense_first hs, .inr ⟨_, _, rfl⟩⟩
  | format f => exact ⟨_, by simp only [exec, execFormat, metaCommand, hs], .inl (hput .format)⟩
  | read6 f => exact ⟨_, by simp only [exec, execRead6, hs], .inl (read6Fetch_rested f 0 _)⟩
  | write6 f => exact ⟨_, exec_firstBlock (f := f) hs (by simp), .inr ⟨_, _, rfl⟩⟩
  | seek f => exact ⟨_, by simp only [exec, execSeek, readinessCheck, hs], .inl hreadiness⟩
  | translate f =>
    exact ⟨_, by simp only [exec, execTranslate, hs], .inl (metaGetBytes_rested (fun _ => rfl) .translate id _)⟩
  | inquiry f =>
    rw [exec_inquiry_first hs]
    by_cases hne : inquiryBytes f s = []
    · exact ⟨_, by rw [firstBytesIn, hne]; rfl, .inl (finishOk_rested _ _)⟩
    · exact ⟨_, firstBytesIn_of_ne_nil hne _, .inr ⟨_, _, rfl⟩⟩
  | modeSelect f =>
    by_cases hlen : f.len.toNat = 0
    · exact ⟨_, by simp only [exec, execModeSelect, hs, parameterLength, hlen, if_true], .inl (hput .modeParams)⟩
    · exact ⟨_, exec_modeSelect_first hs hlen, .inr ⟨_, _, rfl⟩⟩
  | modeSense f =>
    exact ⟨_, by simp only [exec, execModeSense, hs],
      .inl (metaGetBytes_rested (fun _ => rfl) .modeParams (modeSenseBytes f) _)⟩
  | startStop f => exact ⟨_, by simp only [exec, execStartStop, metaCommand, hs], .inl (hput .startStop)⟩
  | verify f => exact ⟨_, by simp only [exec, execVerify, hs], .inl (verifyBlock_rested f 0 _)⟩
  | select f => exact ⟨_, by simp only [exec, execSelect, metaCommand, hs], .inl (hput .select)⟩
  | fcodeRead f =>
    exact ⟨_, by simp only [exec, execFcodeRead, vendorIn, hs], .inl (vendorFetch_rested (fun _ => rfl) .fcode _)⟩
  | fcodeWrite f => exact ⟨_, exec_firstBlock (f := f) hs (by simp), .inr ⟨_, _, rfl⟩⟩
  | vSense f =>
    exact ⟨_, by simp only [exec, execVSense, vendorIn, hs], .inl (vendorFetch_rested (fun _ => rfl) .vSense _)⟩
  | vSelect f => exact ⟨_, exec_firstBlock (f := f) hs (by simp), .inr ⟨_, _, rfl⟩⟩
  | vPath f => exact ⟨_, exec_firstBlock (f := f) hs (by simp), .inr ⟨_, _, rfl⟩⟩
  | vInfo f =>
    exact ⟨_, by simp only [exec, execVInfo, vendorIn, hs], .inl (vendorFetch_rested (fun _ => rfl) .vInfo _)⟩
  | vRead f =>
    exact ⟨_, by simp only [exec, execVRead, vendorIn, hs], .inl (vendorFetch_rested (fun _ => rfl) .vRead _)⟩
  | illegal op f => exact ⟨_, by simp only [exec, execIllegal, hs], .inl (finishIllegal_rested _ _)⟩

/-- The step of a handler that makes a storage call for a block. -/
theorem exec_of_call {i : Instr} {s : State} {k : Nat} (hs : s.seq = .handler (.call k))
    (hi : handlerMayStandAt i (.call k) = true) : ∃ t, exec i s = .next t ∧ Rested i s t := by
  have hput (kind : MetaKind) := metaPutCall_rested i kind s.buf.block s
  cases i with
  | read6 f => exact ⟨_, by simp only [exec, execRead6, hs], read6Fetch_rested f k s⟩
  | write6 f => exact ⟨_, by simp only [exec, execWrite6, hs], write6Store_rested f k s⟩
  | verify f => exact ⟨_, by simp only [exec, execVerify, hs], verifyBlock_rested f k s⟩
  | fcodeWrite f => exact ⟨_, by simp only [exec, execFcodeWrite, vendorOut, hs], hput .fcode⟩
  | vSelect f => exact ⟨_, by simp only [exec, execVSelect, vendorOut, hs], hput .vSelect⟩
  | vPath f => exact ⟨_, by simp only [exec, execVPath, vendorOut, hs], hput .vPath⟩
  | _ => cases hi

/-- The step of the handler that stores the byte string it received. -/
theorem exec_of_put {i : Instr} {s : State} {q : List Byte} (hs : s.seq = .handler (.put q))
    (hi : handlerMayStandAt i (.put q) = true) : ∃ t, exec i s = .next t ∧ Rested i s t := by
  cases i with
  | modeSelect f => exact ⟨_, by simp only [exec, execModeSelect, hs], metaPutCall_rested _ .modeParams q s⟩
  | _ => cases hi

/-- The step of a handler at `DP0`. -/
theorem exec_of_dp0 {i : Instr} {s : State} {dir : XferDir} {k : HandlerPos} (hs : s.seq = .handler k)
    (hk : k.data? = some (dir, .dp0)) (hi : handlerMayStandAt i k = true) :
    ∃ k', exec i s = .next (dataBoundary dir k' s) := by
  cases k with
  | call j => simp [HandlerPos.data?] at hk
  | put q => simp [HandlerPos.data?] at hk
  | block d j p =>
    obtain ⟨rfl, rfl⟩ : d = dir ∧ p = .dp0 := by simpa [HandlerPos.data?] using hk
    exact ⟨_, exec_block hs hi⟩
  | bytesIn rest p =>
    obtain ⟨rfl, rfl⟩ : .toHost = dir ∧ p = .dp0 := by simpa [HandlerPos.data?] using hk
    exact ⟨_, exec_bytesIn hs hi⟩
  | bytesOut rest q p =>
    obtain ⟨rfl, rfl⟩ : .fromHost = dir ∧ p = .dp0 := by simpa [HandlerPos.data?] using hk
    exact ⟨_, exec_bytesOut hs hi⟩

/-- The step of a handler at `DP1` outside a handshake leaves the phase, which `DP0` has written. -/
theorem exec_of_dp1 {i : Instr} {s : State} {dir : XferDir} {k : HandlerPos} (hs : s.seq = .handler k)
    (hk : k.data? = some (dir, .dp1)) (hi : handlerMayStandAt i k = true) (hr : s.out.req = false) :
    ∃ t, exec i s = .next t ∧ t.phase = s.phase := by
  cases k with
  | call j => simp [HandlerPos.data?] at hk
  | put q => simp [HandlerPos.data?] at hk
  | block d j p =>
    obtain ⟨rfl, rfl⟩ : d = dir ∧ p = .dp1 := by simpa [HandlerPos.data?] using hk
    exact ⟨_, (exec_block hs hi).trans (dataFlags_of_no_req _ _ hr), rfl⟩
  | bytesIn rest p =>
    obtain ⟨rfl, rfl⟩ : .toHost = dir ∧ p = .dp1 := by simpa [HandlerPos.data?] using hk
    exact ⟨_, (exec_bytesIn hs hi).trans (dataFlags_of_no_req _ _ hr), rfl⟩
  | bytesOut rest q p =>
    obtain ⟨rfl, rfl⟩ : .fromHost = dir ∧ p = .dp1 := by simpa [HandlerPos.data?] using hk
    exact ⟨_, (exec_bytesOut hs hi).trans (dataFlags_of_no_req _ _ hr), rfl⟩

/-! ### The steps of SEQ -/

/-- Of the steps the lines can see, only the engine's are taken inside a handshake. -/
theorem BusStep.phase_of_engine {s t : State} {e : XferDir × Hs} (h : BusStep s t) (he : s.seq.engine = some e) :
    t.phase = s.phase := by
  cases h with
  | still engine => simp [engine] at he
  | flags p dir engine => simp [engine] at he
  | handshake dir w engine engine' bus req bsy msg cd io dbDir lunValid phase => exact phase
  | select seq => simp [seq, Seq.engine] at he
  | release engine => simp [engine] at he

/-- SEQ goes on from `s`, and moves the phase register as the table allows. -/
def SeqMovesPhase (s : State) : Prop := ∃ t, seqStep s = .next t ∧ PhaseMoves s.phase t.phase

theorem State.Inv.movesPhase_of_engine {s : State} {e : XferDir × Hs} (h : s.Inv) (he : s.seq.engine = some e) :
    SeqMovesPhase s := by
  obtain ⟨t, ht⟩ := h.seqStep_next_of_engine he
  exact ⟨t, ht, phaseMoves_of_eq ((seqStep_cases ht).bus.phase_of_engine he)⟩

theorem State.Inv.movesPhase_of_disp {s : State} (h : s.Inv) (hs : s.seq = .disp) : SeqMovesPhase s := by
  have hstep : seqStep s = exec (fetched s) s := by simp only [seqStep, hs, dispatchStep]
  have hp : s.phase ∈ dispatchPhases := disp_between.phases _ (hs ▸ h.phase)
  obtain ⟨t, ht, hrested | ⟨dir, k, rfl⟩⟩ := exec_of_disp (fetched s) hs
  · exact ⟨t, hstep.trans ht, phaseMoves_of_eq hrested.phase⟩
  · exact ⟨_, hstep.trans ht, phaseMoves_dataBoundary (s := decoded s) hp dir k⟩

theorem State.Inv.movesPhase_of_handler {s : State} {k : HandlerPos} (h : s.Inv) (hs : s.seq = .handler k) :
    SeqMovesPhase s := by
  have hstep : seqStep s = exec (fetched s) s := by simp only [seqStep, hs, dispatchStep]
  have hi := h.handler k hs
  cases hk : k.data? with
  | none =>
    obtain ⟨t, ht, hrested⟩ : ∃ t, exec (fetched s) s = .next t ∧ Rested (fetched s) s t := by
      cases k with
      | call j => exact exec_of_call hs hi
      | put q => exact exec_of_put hs hi
      | _ => simp [HandlerPos.data?] at hk
    exact ⟨t, hstep.trans ht, phaseMoves_of_eq hrested.phase⟩
  | some d =>
    obtain ⟨dir, p⟩ := d
    cases p with
    | dp0 =>
      obtain ⟨k', ht⟩ := exec_of_dp0 hs hk hi
      have hp : s.phase ∈ dispatchPhases := (dp0_between hk).phases _ (hs ▸ h.phase)
      exact ⟨_, hstep.trans ht, phaseMoves_dataBoundary hp dir k'⟩
    | dp1 =>
      obtain ⟨t, ht, hp⟩ := exec_of_dp1 hs hk hi (h.req_eq_false (hs ▸ engine_of_dp1 hk))
      exact ⟨t, hstep.trans ht, phaseMoves_of_eq hp⟩
    | dp2 w => exact h.movesPhase_of_engine (hs ▸ engine_of_dp2 hk)

/-- The BusFree poll: BusFree stays, or Arbitration/Selection is entered from it. -/
theorem phaseMoves_busFreePoll {s : State} (hp : s.phase = .busFree) : PhaseMoves s.phase (busFreePoll s).phase := by
  cases hf : s.resetFlag with
  | true => exact phaseMoves_of_eq (by rw [busFreePoll_of_flag hf]; rfl)
  | false =>
    rw [busFreePoll_of_no_flag hf]
    split
    · exact hp ▸ .inr rfl
    · exact phaseMoves_of_eq rfl

/-- PB3: dispatch begins in the Command phase, and a handler without steps returns in it. -/
theorem movesPhase_of_cmd3 {s : State} (hs : s.seq = .cmd3) : SeqMovesPhase s := by
  have hstep := seqStep_cmd3 hs
  obtain ⟨-, hc⟩ | ⟨-, hr, hc⟩ | ⟨-, -, hc⟩ := commandDone_cases s
  · exact ⟨_, hstep.trans hc, phaseMoves_of_eq rfl⟩
  · obtain ⟨f, -, hx⟩ | ⟨op, f, -, hx⟩ := exec_of_returnsAtOnce (s := goto .disp s) rfl hr
    · exact ⟨_, (hstep.trans hc).trans hx, phaseMoves_of_eq rfl⟩
    · exact ⟨_, (hstep.trans hc).trans hx, phaseMoves_of_eq rfl⟩
  · exact ⟨_, hstep.trans hc, phaseMoves_of_eq rfl⟩

/-- A `setDataPhaseFlags` of the sequencer writes the lines of a phase entered before. -/
theorem State.Inv.movesPhase_of_phaseStart {s : State} {p : Phase} {q : Seq} (h : s.Inv)
    (he : s.seq.engine = none) (hs : seqStep s = phaseStart p q s) : SeqMovesPhase s :=
  ⟨_, hs.trans (phaseStart_eq p q (h.req_eq_false he)), phaseMoves_of_eq rfl⟩

/-- Every step of SEQ: the phase it starts in is the one its label belongs to (R201). -/
theorem State.Inv.seqMovesPhase {s : State} (h : s.Inv) : SeqMovesPhase s := by
  have hp := h.phase
  cases hs : s.seq with
  | bf1 => exact ⟨_, seqStep_bf1 hs, phaseMoves_busFreePoll (by simpa [hs, Seq.phases] using hp)⟩
  | sel1 => exact ⟨_, seqStep_sel1 hs, phaseMoves_of_eq rfl⟩
  | sel2 => exact ⟨_, seqStep_sel2 hs, phaseMoves_of_eq rfl⟩
  | sel3 present =>
    have hp : s.phase = .arbSel := by simpa [hs, Seq.phases] using hp
    refine ⟨_, seqStep_sel3 hs, phaseMoves_boundary ?_⟩
    cases present <;> exact hp ▸ .inr rfl
  | cmd1 => exact h.movesPhase_of_phaseStart (hs ▸ rfl) (seqStep_cmd1 hs)
  | cmd2 i w => exact h.movesPhase_of_engine (congrArg Seq.engine hs)
  | cmd3 => exact movesPhase_of_cmd3 hs
  | disp => exact h.movesPhase_of_disp hs
  | handler k => exact h.movesPhase_of_handler hs
  | disp1 => exact ⟨_, seqStep_disp1 hs, phaseMoves_boundary (phaseMoves_status (by simpa [hs, Seq.phases] using hp))⟩
  | stat1 => exact h.movesPhase_of_phaseStart (hs ▸ rfl) (seqStep_stat1 hs)
  | stat2 w => exact h.movesPhase_of_engine (congrArg Seq.engine hs)
  | stat3 =>
    have hp : s.phase = .status := by simpa [hs, Seq.phases] using hp
    exact ⟨_, seqStep_stat3 hs, phaseMoves_boundary (hp ▸ .inr rfl)⟩
  | msg1 => exact h.movesPhase_of_phaseStart (hs ▸ rfl) (seqStep_msg1 hs)
  | msg2 w => exact h.movesPhase_of_engine (congrArg Seq.engine hs)
  | msg3 => exact ⟨_, seqStep_msg3 hs, phaseMoves_boundary (phaseMoves_of_eq rfl)⟩
  | rel => exact ⟨_, seqStep_rel hs, phaseMoves_busFree _⟩
  | rst1 => exact ⟨_, seqStep_rst1 hs, phaseMoves_busFree _⟩
  | rst3 => exact ⟨_, seqStep_rst3 hs, phaseMoves_busFree _⟩

/-- Settles O36: SEQ moves the register as the table allows, and the other agents do not write it. -/
theorem phaseTable : Obligations.PhaseTable := by
  intro s t hs h
  unfold step at h
  cases hm : nextMove s with
  | seq =>
    obtain ⟨u, hu, hmoves⟩ := (popMove_inv hs).seqMovesPhase
    obtain rfl : u = t := by simpa [hm, agentStep, hu] using h
    exact hmoves
  | mon =>
    obtain rfl : monStep (popMove s) = t := by simpa [hm, agentStep] using h
    obtain ⟨f, p, d, heq⟩ := monStep_frame (popMove s)
    exact .inl (by rw [heq]; rfl)
  | host a =>
    rw [hm] at h
    obtain ⟨l, p, rfl, -⟩ := hostStep_frame h
    exact .inl rfl

end Sys2Proof.Machine
end

section
/-! PROOF. The step of each handler at `SQ_DISPATCH` and before a storage call (R221, R226 to R248): one rule per
handler, or per body that several handlers share. What the commands answer is read off from the rules. -/

namespace Sys2Proof.Machine

/-! ### Where dispatch begins -/

/-- What a step of a handler works on: at `SQ_DISPATCH` the event of R300 comes first. -/
def entered (s : State) : State := if s.seq = .disp then decoded s else s

theorem entered_of_disp {s : State} (hs : s.seq = .disp) : entered s = decoded s := if_pos hs

theorem entered_of_handler {s : State} {k : HandlerPos} (hs : s.seq = .handler k) : entered s = s :=
  if_neg (by simp [hs])

theorem entered_eq (s : State) :
    entered s = { s with diag := if s.seq = .disp then .commandDecoded s.cdb :: s.diag else s.diag } := by
  unfold entered
  split <;> rfl

/-- The event is no matter of STORE's answers (R70, R300). -/
theorem nextAnswer_decoded (s : State) : nextAnswer (decoded s) = nextAnswer s := rfl

theorem nextAnswer_entered (s : State) : nextAnswer (entered s) = nextAnswer s := by
  rw [entered_eq]
  rfl

theorem seqStep_inDispatch {s : State} (hs : s.seq = .disp ∨ ∃ k, s.seq = .handler k) :
    seqStep s = exec (fetched s) s := by
  obtain hs | ⟨k, hs⟩ := hs
  · simp only [seqStep, hs, dispatchStep]
  · simp only [seqStep, hs, dispatchStep]

/-- Whether a handler takes a step of its own is a matter of the command and the configuration. -/
theorem returnsAtOnce_congr (i : Instr) {s t : State} (h : t.cfg = s.cfg) : returnsAtOnce i t = returnsAtOnce i s := by
  rw [Bool.eq_iff_iff, returnsAtOnce_iff, returnsAtOnce_iff, h]

/-- Settles O41: SEQ's step inside `dispatch`, and PB3's with the flag clear, after the move is taken. -/
theorem stepRunsDecoded : Obligations.StepRunsDecoded := by
  intro s hmove
  have hstep : step s = seqStep (popMove s) := by rw [step, hmove]; rfl
  refine ⟨fun hs => hstep.trans (seqStep_inDispatch hs), fun hs hf hr => ?_⟩
  have hr' : returnsAtOnce (fetched (popMove s)) (popMove s) = true :=
    (returnsAtOnce_congr (s := s) _ rfl).trans hr
  rw [hstep, seqStep_cmd3 (s := popMove s) hs, commandDone_of_no_flag (s := popMove s) hf, if_pos hr']
  rfl

/-! ### Handlers without a data phase (R226, R227, R229, R233, R238 to R240, R248) -/

theorem exec_readiness {i : Instr} {f : Fields} {s : State}
    (hi : i = .testUnitReady f ∨ i = .rezeroUnit f ∨ i = .seek f)
    (hs : s.seq = .disp) : exec i s = .next (readinessCall (decoded s)) := by
  obtain rfl | rfl | rfl := hi
  · simp only [exec, execTestUnitReady, readinessCheck, hs]
  · simp only [exec, execRezeroUnit, readinessCheck, hs]
  · simp only [exec, execSeek, readinessCheck, hs]

/-- Settles O42: the readiness call, for each of its two answers. -/
theorem readinessCommands : Obligations.ReadinessCommands := by
  intro i f s hi hs
  rw [exec_readiness hi hs, readinessCall_eq, nextAnswer_decoded]
  cases (nextAnswer s).flag <;> rfl

theorem exec_metaCommand {i : Instr} {kind : MetaKind} {f : Fields} {s : State}
    (hi : i = .format f ∧ kind = .format ∨ i = .startStop f ∧ kind = .startStop ∨
      i = .select f ∧ kind = .select) (hs : s.seq = .disp) : exec i s = .next (metaPutCall kind [] (decoded s)) := by
  obtain ⟨rfl, rfl⟩ | ⟨rfl, rfl⟩ | ⟨rfl, rfl⟩ := hi
  · simp only [exec, execFormat, metaCommand, hs]
  · simp only [exec, execStartStop, metaCommand, hs]
  · simp only [exec, execSelect, metaCommand, hs]

/-- Settles O43: the `metaPut` of the empty string, for each answer. -/
theorem metadataCommands : Obligations.MetadataCommands := by
  intro i kind f s hi hs
  rw [exec_metaCommand hi hs, metaPutCall_eq, nextAnswer_decoded]
  cases (nextAnswer s).err <;> rfl

theorem exec_verify {f : Fields} {k : Nat} {s : State} (hs : s.seq = .disp ∧ k = 0 ∨ s.seq = .handler (.call k)) :
    exec (.verify f) s = .next (verifyBlock f k (entered s)) := by
  obtain ⟨hs, rfl⟩ | hs := hs
  · simp only [exec, execVerify, hs, entered_of_disp hs]
  · simp only [exec, execVerify, hs, entered_of_handler hs]

/-- Settles O45: the call for block `k`, for each answer, and after it the next block or the return. -/
theorem verifyCommand : Obligations.VerifyCommand := by
  intro f k s hs called seen kept
  rw [exec_verify hs, verifyBlock_eq, nextAnswer_entered, entered_eq]
  cases (nextAnswer s).err <;> rfl

theorem exec_illegal {op : Byte} {f : Fields} {s : State} (hs : s.seq = .disp) :
    exec (.illegal op f) s = .next (finishIllegal (decoded s)) := by
  simp only [exec, execIllegal, hs]

/-- Settles O46: the return with the invalid-command code, after the event of R300. -/
theorem illegalCommand : Obligations.IllegalCommand := fun _ _ _ hs => exec_illegal hs

/-! ### READ(6) and WRITE(6) (R230, R231) -/

theorem exec_read6_fetch {f : Fields} {k : Nat} {s : State}
    (hs : s.seq = .disp ∧ k = 0 ∨ s.seq = .handler (.call k)) :
    exec (.read6 f) s = .next (read6Fetch f k (entered s)) := by
  obtain ⟨hs, rfl⟩ | hs := hs
  · simp only [exec, execRead6, hs, entered_of_disp hs]
  · simp only [exec, execRead6, hs, entered_of_handler hs]

/-- The step in which a block is full is the handler's own (R230, R231). -/
theorem blockPhase_of_full {dir : XferDir} {k : Nat} {w : Hs} {onFull : State → State} {s u : State}
    (h : blockMove dir w s = .full u) : blockPhase dir k (.dp2 w) onFull s = .next (onFull u) := by
  simp only [blockPhase, h]

/-- The 256th byte to the host is acknowledged: the block is full (TB4, TB1). -/
theorem blockMove_sent_last {s : State} (hn : s.n = 255) : blockMove .toHost .release s = .full
    { s with out := { s.out with req := false }, n := 256, diag := .blockMoved .toHost 256 :: s.diag } := by
  obtain ⟨-, -, -, hsent, -⟩ := transferBlockSteps s (by omega)
  rw [hsent, if_pos hn]

/-- The step of every command at the acknowledged last byte of a block to the host. -/
theorem exec_blockSent {i : Instr} {k : Nat} {s : State}
    (hi : handlerMayStandAt i (.block .toHost k (.dp2 .release)) = true)
    (hs : s.seq = .handler (.block .toHost k (.dp2 .release))) (hn : s.n = 255) :
    exec i s = .next (onBlockFull i .toHost k
      { s with out := { s.out with req := false }, n := 256, diag := .blockMoved .toHost 256 :: s.diag }) :=
  (exec_block hs hi).trans (blockPhase_of_full (blockMove_sent_last hn))

/-- Settles O48: the block is full, and the next one is fetched or the handler returns. -/
theorem read6BlockSent : Obligations.Read6BlockSent := by
  intro f k s hs hn
  rw [exec_blockSent rfl hs hn]
  rfl

theorem exec_write6_store {f : Fields} {k : Nat} {s : State} (hs : s.seq = .handler (.call k)) :
    exec (.write6 f) s = .next (write6Store f k s) := by
  simp only [exec, execWrite6, hs]

/-- WRITE6's step that persists block `k`: an error, the next block, the return. -/
theorem write6Store_eq (f : Fields) (k : Nat) (s : State) : write6Store f k s =
    match (nextAnswer s).err with
    | some e => finishStorage e (afterCall (.writeSector s.curLun (blockAddr f k) s.buf.block) s)
    | none =>
      if k + 1 < blockCount f then
        goto (.handler (.block .fromHost (k + 1) .dp0))
          (afterCall (.writeSector s.curLun (blockAddr f k) s.buf.block) s)
      else finishOk (afterCall (.writeSector s.curLun (blockAddr f k) s.buf.block) s) := rfl

/-! ### The F-code and vendor diagnostic commands (R241 to R247) -/

theorem exec_vendorIn_fetch {i : Instr} {kind : MetaKind} {f : Fields} {s : State}
    (hi : i = .fcodeRead f ∧ kind = .fcode ∨ i = .vSense f ∧ kind = .vSense ∨ i = .vInfo f ∧ kind = .vInfo ∨
      i = .vRead f ∧ kind = .vRead) (hs : s.seq = .disp) :
    exec i s = .next (vendorFetch kind (decoded s)) := by
  obtain ⟨rfl, rfl⟩ | ⟨rfl, rfl⟩ | ⟨rfl, rfl⟩ | ⟨rfl, rfl⟩ := hi
  · simp only [exec, execFcodeRead, vendorIn, hs]
  · simp only [exec, execVSense, vendorIn, hs]
  · simp only [exec, execVInfo, vendorIn, hs]
  · simp only [exec, execVRead, vendorIn, hs]

theorem padBlock_of_length_le {bs : List Byte} (h : bs.length ≤ 256) :
    padBlock bs = bs ++ List.replicate (256 - bs.length) 0 := by
  rw [padBlock, List.take_of_length_le h]

/-- `metaGet` of `vendorIn`, for a string that fits a block (R76): an error, or the padded string in `buf`. -/
theorem vendorFetch_eq (kind : MetaKind) (s : State) (hl : (nextAnswer s).bytes.length ≤ 256) :
    vendorFetch kind s =
    match (nextAnswer s).err with
    | some e => finishStorage e (afterCall (.metaGet kind s.curLun s.cdb) s)
    | none =>
      goto (.handler (.block .toHost 0 .dp0))
        { afterCall (.metaGet kind s.curLun s.cdb) s with
          buf := Memory.ofBytes 0 ((nextAnswer s).bytes ++ List.replicate (256 - (nextAnswer s).bytes.length) 0) } := by
  unfold vendorFetch metaGetResult
  cases (nextAnswer s).err with
  | some e => rfl
  | none => simp only [List.take_of_length_le hl, padBlock_of_length_le hl]

/-- Settles O50: the fetch, for each answer. -/
theorem vendorInFetch : Obligations.VendorInFetch := by
  intro i kind f s hi hs hl
  rw [exec_vendorIn_fetch hi hs, vendorFetch_eq kind (decoded s) hl, nextAnswer_decoded]
  cases (nextAnswer s).err <;> rfl

/-- Settles O51: the block is full, and the handler returns. -/
theorem vendorInSent : Obligations.VendorInSent := by
  intro i f k s hi hs hn
  obtain rfl | rfl | rfl | rfl := hi
  · exact exec_blockSent rfl hs hn
  · exact exec_blockSent rfl hs hn
  · exact exec_blockSent rfl hs hn
  · exact exec_blockSent rfl hs hn

theorem exec_vendorOut_store {i : Instr} {kind : MetaKind} {f : Fields} {k : Nat} {s : State}
    (hi : i = .fcodeWrite f ∧ kind = .fcode ∨ i = .vSelect f ∧ kind = .vSelect ∨ i = .vPath f ∧ kind = .vPath)
    (hs : s.seq = .handler (.call k)) : exec i s = .next (metaPutCall kind s.buf.block s) := by
  obtain ⟨rfl, rfl⟩ | ⟨rfl, rfl⟩ | ⟨rfl, rfl⟩ := hi
  · simp only [exec, execFcodeWrite, vendorOut, hs]
  · simp only [exec, execVSelect, vendorOut, hs]
  · simp only [exec, execVPath, vendorOut, hs]

/-- Settles O52: the `metaPut` of the whole buffer, for each answer. -/
theorem vendorOutStore : Obligations.VendorOutStore := by
  intro i kind f k s hi hs
  rw [exec_vendorOut_store hi hs, metaPutCall_eq]
  cases (nextAnswer s).err <;> rfl

/-- Settles O57: the first step of the four commands is PB4. -/
theorem dataOutStart : Obligations.DataOutStart := by
  intro i f s hi hs
  rw [exec_firstBlock hs hi, dataBoundary_eq]
  rfl

/-! ### The commands that move a byte string (R228, R234 to R237) -/

/-- A handler that sends a byte string without a call: it returns, or PB4 comes first (R207). -/
theorem firstBytesIn_eq (bytes : List Byte) (s : State) : firstBytesIn bytes s =
    .next (if bytes = [] then finishOk s else dataBoundary .toHost (.bytesIn bytes .dp1) s) := by
  simp only [firstBytesIn, List.isEmpty_iff]

/-- Settles O53: the strings are those of R228 and R235; one that is not empty is sent after PB4. -/
theorem senseAndInquiryStart : Obligations.SenseAndInquiryStart := by
  intro i f bytes s hi hs
  have hexec : exec i s = firstBytesIn bytes (decoded s) := by
    obtain ⟨rfl, rfl⟩ | ⟨rfl, rfl⟩ := hi
    · exact (exec_requestSense_first hs).trans (firstBytesIn_of_ne_nil (requestSenseBytes_ne_nil f s) _).symm
    · exact exec_inquiry_first hs
  rw [hexec, firstBytesIn_eq, dataBoundary_eq]
  rfl

/-- Settles O54: the engine's last step of the last byte, and the return. -/
theorem byteStringSent : Obligations.ByteStringSent := by
  intro i f b s hi hs
  have hstands : handlerMayStandAt i (.bytesIn [b] (.dp2 .release)) = true := by
    obtain rfl | rfl | rfl | rfl := hi <;> rfl
  exact exec_bytesIn hs hstands

/-- TRANSLATE sends the whole string, MODE SENSE at most `len` bytes of it. -/
theorem exec_metaGetBytes {i : Instr} {kind : MetaKind} {f : Fields} {cut : List Byte → List Byte} {s : State}
    (hi : i = .translate f ∧ kind = .translate ∧ cut = id ∨
      i = .modeSense f ∧ kind = .modeParams ∧ cut = modeSenseBytes f) (hs : s.seq = .disp) :
    exec i s = .next (metaGetBytes kind cut (decoded s)) := by
  obtain ⟨rfl, rfl, rfl⟩ | ⟨rfl, rfl, rfl⟩ := hi
  · simp only [exec, execTranslate, hs]
  · simp only [exec, execModeSense, hs]

/-- Settles O55: the string each command sends is its cut of the answer. -/
theorem translateAndModeSenseFetch : Obligations.TranslateAndModeSenseFetch := by
  intro i kind f bytes s hi hs hl
  obtain ⟨cut, hcut, rfl⟩ : ∃ cut, (i = .translate f ∧ kind = .translate ∧ cut = id ∨
      i = .modeSense f ∧ kind = .modeParams ∧ cut = modeSenseBytes f) ∧ bytes = cut (nextAnswer s).bytes := by
    obtain ⟨hi, hkind, hbytes⟩ | ⟨hi, hkind, hbytes⟩ := hi
    · exact ⟨id, .inl ⟨hi, hkind, rfl⟩, hbytes⟩
    · exact ⟨modeSenseBytes f, .inr ⟨hi, hkind, rfl⟩, hbytes⟩
  rw [exec_metaGetBytes hcut hs, metaGetBytes_eq kind cut (decoded s) hl, nextAnswer_decoded]
  cases (nextAnswer s).err <;> rfl

/-- MODE SELECT stores the bytes it received, or none where its parameter length is 0 (R236). -/
theorem exec_modeSelect_put {f : Fields} {q : List Byte} {s : State}
    (hs : s.seq = .disp ∧ f.len = 0 ∧ q = [] ∨ s.seq = .handler (.put q)) :
    exec (.modeSelect f) s = .next (metaPutCall .modeParams q (entered s)) := by
  obtain ⟨hs, hlen, rfl⟩ | hs := hs
  · have hnone : parameterLength f = 0 := by rw [parameterLength, hlen]; rfl
    simp only [exec, execModeSelect, hs, hnone, if_true, entered_of_disp hs]
  · simp only [exec, execModeSelect, hs, entered_of_handler hs]

/-- Settles O56: PB4 before the parameter list, and the `metaPut` after it, for each answer. -/
theorem modeSelectCommand : Obligations.ModeSelectCommand := by
  intro f q s
  refine ⟨fun hs hlen => ?ask, fun hs => ?store⟩
  case ask =>
    rw [exec_modeSelect_first hs (mt (BitVec.toNat_inj (y := 0)).1 hlen), dataBoundary_eq]
    rfl
  case store =>
    intro seen
    rw [exec_modeSelect_put hs, metaPutCall_eq, nextAnswer_entered, entered_eq]
    cases (nextAnswer s).err <;> rfl

end Sys2Proof.Machine

namespace Sys2Proof

open Machine in
/-- Settles O47: the fetch of block `k`, for each answer. -/
theorem read6Fetch : Obligations.Read6Fetch := by
  intro f k s hs called seen
  rw [exec_read6_fetch hs, read6Fetch_eq, nextAnswer_entered, entered_eq]
  cases (nextAnswer s).err <;> rfl

open Machine in
/-- Settles O49: the block's `writeSector`, for each answer, and after it the next block or the return. -/
theorem write6Store : Obligations.Write6Store := by
  intro f k s hs called
  rw [exec_write6_store hs, write6Store_eq]
  cases (nextAnswer s).err <;> rfl

end Sys2Proof
end

section
/-! PROOF. What a handler may do (R198, R220, R222, R223), what ends it (R225), and when it stores a block (R232). Every
step of every command is inverted once, into the work it does and the move of control that follows
(`exec_rightfulStep`). -/

namespace Sys2Proof.Machine

/-! ### The work of a handler's step -/

/-- What a handler leaves alone while it works, before control moves on: it may not write BSY, the LUN, the command or
the results, and it sets the Reset Flag in a time-out only (R222). -/
structure Works (s u : State) : Prop where
  bsy : u.out.bsy = s.out.bsy
  lunValid : u.lunValid = s.lunValid
  curLun : u.curLun = s.curLun
  selByte : u.selByte = s.selByte
  cdb : u.cdb = s.cdb
  rstPending : u.rstPending = s.rstPending
  host : u.host = s.host
  cfg : u.cfg = s.cfg
  status : u.status = s.status
  sense : u.sense = s.sense
  seq : u.seq = s.seq
  resetFlag : u.resetFlag = s.resetFlag ∨ u.resetFlag = true ∧ ∃ dir, s.seq.engine = some (dir, .timeout)

theorem Works.trans {s u v : State} (h : Works s u) (k : Works u v) : Works s v where
  bsy := k.bsy.trans h.bsy
  lunValid := k.lunValid.trans h.lunValid
  curLun := k.curLun.trans h.curLun
  selByte := k.selByte.trans h.selByte
  cdb := k.cdb.trans h.cdb
  rstPending := k.rstPending.trans h.rstPending
  host := k.host.trans h.host
  cfg := k.cfg.trans h.cfg
  status := k.status.trans h.status
  sense := k.sense.trans h.sense
  seq := k.seq.trans h.seq
  resetFlag := by
    obtain hk | ⟨hk, htimeout⟩ := k.resetFlag
    · rw [hk]; exact h.resetFlag
    · exact .inr ⟨hk, h.seq ▸ htimeout⟩

theorem works_refl (s : State) : Works s s := ⟨rfl, rfl, rfl, rfl, rfl, rfl, rfl, rfl, rfl, rfl, rfl, .inl rfl⟩

theorem emit_works (e : DiagEvent) (s : State) : Works s (emit e s) :=
  ⟨rfl, rfl, rfl, rfl, rfl, rfl, rfl, rfl, rfl, rfl, rfl, .inl rfl⟩

theorem setPhase_works (p : Phase) (s : State) : Works s (setPhase p s) :=
  ⟨rfl, rfl, rfl, rfl, rfl, rfl, rfl, rfl, rfl, rfl, rfl, .inl rfl⟩

theorem afterCall_works (c : StoreCall) (s : State) : Works s (afterCall c s) :=
  ⟨rfl, rfl, rfl, rfl, rfl, rfl, rfl, rfl, rfl, rfl, rfl, .inl rfl⟩

theorem driveFlags_works (f : PhaseFlags) (s : State) : Works s (driveFlags f s) :=
  ⟨rfl, rfl, rfl, rfl, rfl, rfl, rfl, rfl, rfl, rfl, rfl, .inl rfl⟩

/-- The buffer and its count are the handler's to write (R222). -/
theorem setBuf_works (m : Memory) (n : Nat) (s : State) : Works s { s with buf := m, n := n } :=
  ⟨rfl, rfl, rfl, rfl, rfl, rfl, rfl, rfl, rfl, rfl, rfl, .inl rfl⟩

/-- Of the engine's steps only the time-out writes the Reset Flag (R155, R158). -/
theorem hsStep_resetFlag {dir : XferDir} {bd : Bool} {b : Byte} {w : Hs} {s u : State}
    (hu : (hsStep dir bd b w s).state? = some u) (hw : w ≠ .timeout) : u.resetFlag = s.resetFlag := by
  have hread (h : (startRead bd s).state? = some u) : u.resetFlag = s.resetFlag := by
    unfold startRead at h
    split_ifs at h <;> cases h
    exact raiseReq_resetFlag bd s
  have hwrite (h : (startWrite b s).state? = some u) : u.resetFlag = s.resetFlag := by
    unfold startWrite at h
    split_ifs at h <;> cases h
    rfl
  have hraise (h : some (raiseReq bd s) = some u) : u.resetFlag = s.resetFlag := by
    cases h
    exact raiseReq_resetFlag bd s
  cases w with
  | idle => cases dir with
    | toHost => exact hwrite hu
    | fromHost => exact hread hu
  | req => cases dir with
    | toHost => exact hraise hu
    | fromHost => exact hread hu
  | drive => exact hraise hu
  | wait =>
    rw [pollDecides dir bd b s] at hu
    split_ifs at hu <;> cases hu <;> rfl
  | release => cases dir <;> cases hu <;> rfl
  | sample => cases hu; rfl
  | timeout => exact absurd rfl hw
  | abort => cases hu; rfl

/-- A step of the engine is work of the handler that stands there. -/
theorem works_of_hsStep {dir : XferDir} {bd : Bool} {b : Byte} {w : Hs} {s u : State}
    (he : s.seq.engine = some (dir, w)) (hu : (hsStep dir bd b w s).state? = some u) : Works s u := by
  have hf := hsStep_frame hu
  refine ⟨hf.bsy, hf.lunValid, hf.curLun, hf.selByte, hf.cdb, hf.rstPending, hf.host, hf.cfg, hf.status, hf.sense,
    hf.seq, ?_⟩
  by_cases hw : w = .timeout
  · subst hw
    cases hu
    exact .inr ⟨rfl, dir, he⟩
  · exact .inl (hsStep_resetFlag hu hw)

/-! ### The move of control -/

/-- A step of a handler: its work, and then control moves on inside `dispatch`, or returns from it with one of the
results of R223. -/
inductive RightfulStep (s : State) : State → Prop where
  | goesOn {u : State} (h : Works s u) (k : HandlerPos) : RightfulStep s (goto (.handler k) u)
  | returnsOk {u : State} (h : Works s u) : RightfulStep s (finishOk u)
  | returnsFail {u : State} (h : Works s u) (code : Byte) : RightfulStep s (finish (failResult u.cfg code) u)

theorem Works.rightfulStep {s u t : State} (h : Works s u) (k : RightfulStep u t) : RightfulStep s t := by
  cases k with
  | goesOn hk k => exact .goesOn (h.trans hk) k
  | returnsOk hk => exact .returnsOk (h.trans hk)
  | returnsFail hk code => exact .returnsFail (h.trans hk) code

theorem goto_rightful (k : HandlerPos) (s : State) : RightfulStep s (goto (.handler k) s) := .goesOn (works_refl s) k

theorem finishOk_rightful (s : State) : RightfulStep s (finishOk s) := .returnsOk (works_refl s)

theorem finishXfail_rightful (s : State) : RightfulStep s (finishXfail s) := .returnsFail (works_refl s) _

theorem finishStorage_rightful (e : StoreErr) (s : State) : RightfulStep s (finishStorage e s) :=
  .returnsFail (emit_works _ s) _

theorem finishIllegal_rightful (s : State) : RightfulStep s (finishIllegal s) := .returnsFail (emit_works _ s) _

/-! ### The data procedures -/

theorem dataBoundary_rightful (dir : XferDir) (k : HandlerPos) (s : State) :
    RightfulStep s (dataBoundary dir k s) := by
  unfold dataBoundary
  split
  · exact finishXfail_rightful s
  · exact .goesOn (setPhase_works _ s) k

/-- `dataInBlock` and `dataOutBlock` (R205, R206). -/
theorem blockPhase_rightful {dir : XferDir} {k : Nat} {p : DataPos} {onFull : State → State} {s t : State}
    (hs : s.seq = .handler (.block dir k p)) (hfull : ∀ u, RightfulStep u (onFull u))
    (h : blockPhase dir k p onFull s = .next t) : RightfulStep s t := by
  obtain ⟨-, rfl⟩ | ⟨-, -, rfl⟩ | ⟨w, rfl, -, hc⟩ := blockPhase_cases h
  · exact dataBoundary_rightful _ _ s
  · exact .goesOn ((setBuf_works s.buf 0 s).trans (driveFlags_works _ _)) _
  · have hstep {u : State} (hu : (hsStep dir true (s.buf.read s.n) w s).state? = some u) : Works s u :=
      works_of_hsStep (hs ▸ rfl) hu
    obtain ⟨w', u, hu, rfl⟩ | ⟨b, u, w', v, hu, hb, rfl⟩ | ⟨b, u, v, hu, hb, rfl⟩ | ⟨u, hu, rfl⟩ := hc
    · exact .goesOn (hstep (by rw [hu]; rfl)) _
    · obtain ⟨m, -, ⟨-, heq⟩ | ⟨-, heq⟩⟩ := byteDone_cases dir b u <;> cases hb.symm.trans heq
      exact .goesOn ((hstep (by rw [hu]; rfl)).trans (setBuf_works m _ u)) _
    · obtain ⟨m, -, ⟨-, heq⟩ | ⟨-, heq⟩⟩ := byteDone_cases dir b u <;> cases hb.symm.trans heq
      exact ((hstep (by rw [hu]; rfl)).trans ((setBuf_works m _ u).trans (emit_works _ _))).rightfulStep (hfull _)
    · exact ((hstep (by rw [hu]; rfl)).trans (emit_works _ u)).rightfulStep (finishXfail_rightful _)

/-- `dataInBytes` (R207). -/
theorem bytesInPhase_rightful {rest : List Byte} {p : DataPos} {s t : State}
    (hs : s.seq = .handler (.bytesIn rest p)) (h : bytesInPhase rest p s = .next t) : RightfulStep s t := by
  obtain ⟨-, rfl⟩ | ⟨-, -, rfl⟩ | ⟨w, b, bs, rfl, rfl, hc⟩ := bytesInPhase_cases h
  · exact dataBoundary_rightful _ _ s
  · exact .goesOn (driveFlags_works _ s) _
  · have hstep {u : State} (hu : (writeByteStep b w s).state? = some u) : Works s u := works_of_hsStep (hs ▸ rfl) hu
    obtain ⟨w', u, hu, rfl⟩ | ⟨c, u, hu, rfl⟩ | ⟨u, hu, rfl⟩ := hc
    · exact .goesOn (hstep (by rw [hu]; rfl)) _
    · split
      · exact .returnsOk (hstep (by rw [hu]; rfl))
      · exact .goesOn (hstep (by rw [hu]; rfl)) _
    · exact (hstep (by rw [hu]; rfl)).rightfulStep (finishXfail_rightful u)

/-- `dataOutBytes` (R208). -/
theorem bytesOutPhase_rightful {rest : Nat} {q : List Byte} {p : DataPos} {s t : State}
    (hs : s.seq = .handler (.bytesOut rest q p)) (h : bytesOutPhase rest q p s = .next t) : RightfulStep s t := by
  obtain ⟨-, rfl⟩ | ⟨-, -, rfl⟩ | ⟨w, r, rfl, rfl, hc⟩ := bytesOutPhase_cases h
  · exact dataBoundary_rightful _ _ s
  · exact .goesOn (driveFlags_works _ s) _
  · have hstep {u : State} (hu : (readByteStep w s).state? = some u) : Works s u := works_of_hsStep (hs ▸ rfl) hu
    obtain ⟨w', u, hu, rfl⟩ | ⟨b, u, hu, rfl⟩ | ⟨u, hu, rfl⟩ := hc
    · exact .goesOn (hstep (by rw [hu]; rfl)) _
    · split
      · exact .goesOn (hstep (by rw [hu]; rfl)) _
      · exact .goesOn (hstep (by rw [hu]; rfl)) _
    · exact (hstep (by rw [hu]; rfl)).rightfulStep (finishXfail_rightful u)

/-! ### The steps that call STORE -/

theorem readinessCall_rightful (s : State) : RightfulStep s (readinessCall s) := by
  rw [readinessCall_eq]
  split
  · exact .returnsOk (afterCall_works _ s)
  · exact (afterCall_works _ s).rightfulStep (finishStorage_rightful _ _)

theorem metaPutCall_rightful (kind : MetaKind) (bs : List Byte) (s : State) :
    RightfulStep s (metaPutCall kind bs s) := by
  rw [metaPutCall_eq]
  split
  · exact (afterCall_works _ s).rightfulStep (finishStorage_rightful _ _)
  · exact .returnsOk (afterCall_works _ s)

theorem metaGetBytes_rightful (kind : MetaKind) (cut : List Byte → List Byte) (s : State) :
    RightfulStep s (metaGetBytes kind cut s) := by
  simp only [metaGetBytes]
  split
  · exact (afterCall_works _ s).rightfulStep (finishStorage_rightful _ _)
  · unfold startBytesIn
    split
    · exact .returnsOk (afterCall_works _ s)
    · exact .goesOn (afterCall_works _ s) _

theorem verifyBlock_rightful (f : Fields) (k : Nat) (s : State) : RightfulStep s (verifyBlock f k s) := by
  rw [verifyBlock_eq]
  split
  · exact (afterCall_works _ s).rightfulStep (finishStorage_rightful _ _)
  · dsimp only
    split
    · exact .goesOn ((afterCall_works _ s).trans (setBuf_works _ _ _)) _
    · exact .returnsOk ((afterCall_works _ s).trans (setBuf_works _ _ _))

theorem read6Fetch_rightful (f : Fields) (k : Nat) (s : State) : RightfulStep s (read6Fetch f k s) := by
  rw [read6Fetch_eq]
  split
  · exact (afterCall_works _ s).rightfulStep (finishStorage_rightful _ _)
  · exact .goesOn ((afterCall_works _ s).trans (setBuf_works _ _ _)) _

theorem read6Sent_rightful (f : Fields) (k : Nat) (s : State) : RightfulStep s (read6Sent f k s) := by
  unfold read6Sent
  split
  · exact goto_rightful _ s
  · exact finishOk_rightful s

theorem write6Store_rightful (f : Fields) (k : Nat) (s : State) : RightfulStep s (write6Store f k s) := by
  rw [write6Store_eq]
  split
  · exact (afterCall_works _ s).rightfulStep (finishStorage_rightful _ _)
  · split
    · exact .goesOn (afterCall_works _ s) _
    · exact .returnsOk (afterCall_works _ s)

theorem vendorFetch_rightful (kind : MetaKind) (s : State) : RightfulStep s (vendorFetch kind s) := by
  simp only [vendorFetch]
  split
  · exact (afterCall_works _ s).rightfulStep (finishStorage_rightful _ _)
  · exact .goesOn ((afterCall_works _ s).trans (setBuf_works _ _ _)) _

/-! ### The bodies of the handlers -/

/-- The first step of a handler, after the event of R300. -/
theorem rightfulStep_of_decoded {s t : State} (h : RightfulStep (decoded s) t) : RightfulStep s t :=
  (emit_works _ s).rightfulStep h

/-- The first step of a handler that asks for a block at once. -/
theorem firstBlock_rightful {k : Nat} {dir : XferDir} {onFull : State → State} {s t : State}
    (h : blockPhase dir k .dp0 onFull (decoded s) = .next t) : RightfulStep s t := by
  cases h
  exact rightfulStep_of_decoded (dataBoundary_rightful _ _ _)

/-- The first step of a handler that sends a byte string at once. -/
theorem firstBytesIn_rightful {bs : List Byte} {s t : State} (h : firstBytesIn bs (decoded s) = .next t) :
    RightfulStep s t := by
  rw [firstBytesIn_eq] at h
  cases h
  split
  · exact rightfulStep_of_decoded (finishOk_rightful _)
  · exact rightfulStep_of_decoded (dataBoundary_rightful _ _ _)

theorem readinessCheck_rightful {s t : State} (h : readinessCheck s = .next t) : RightfulStep s t := by
  unfold readinessCheck at h
  split at h
  case h_1 => cases h; exact rightfulStep_of_decoded (readinessCall_rightful _)
  case h_2 => cases h

theorem metaCommand_rightful {kind : MetaKind} {s t : State} (h : metaCommand kind s = .next t) :
    RightfulStep s t := by
  unfold metaCommand at h
  split at h
  case h_1 => cases h; exact rightfulStep_of_decoded (metaPutCall_rightful kind [] _)
  case h_2 => cases h

theorem execVerify_rightful {f : Fields} {s t : State} (h : execVerify f s = .next t) : RightfulStep s t := by
  unfold execVerify at h
  split at h
  case h_1 => cases h; exact rightfulStep_of_decoded (verifyBlock_rightful f 0 _)
  case h_2 k _ => cases h; exact verifyBlock_rightful f k s
  case h_3 => cases h

theorem execIllegal_rightful {op : Byte} {f : Fields} {s t : State} (h : execIllegal op f s = .next t) :
    RightfulStep s t := by
  unfold execIllegal at h
  split at h
  case h_1 => cases h; exact rightfulStep_of_decoded (finishIllegal_rightful _)
  case h_2 => cases h

theorem execRead6_rightful {f : Fields} {s t : State} (h : execRead6 f s = .next t) : RightfulStep s t := by
  unfold execRead6 at h
  split at h
  case h_1 => cases h; exact rightfulStep_of_decoded (read6Fetch_rightful f 0 _)
  case h_2 k _ => cases h; exact read6Fetch_rightful f k s
  case h_3 k p hs => exact blockPhase_rightful hs (read6Sent_rightful f k) h
  case h_4 => cases h

theorem execWrite6_rightful {f : Fields} {s t : State} (h : execWrite6 f s = .next t) : RightfulStep s t := by
  unfold execWrite6 at h
  split at h
  case h_1 => exact firstBlock_rightful h
  case h_2 k p hs => exact blockPhase_rightful hs (goto_rightful _) h
  case h_3 k _ => cases h; exact write6Store_rightful f k s
  case h_4 => cases h

theorem vendorIn_rightful {kind : MetaKind} {s t : State} (h : vendorIn kind s = .next t) : RightfulStep s t := by
  unfold vendorIn at h
  split at h
  case h_1 => cases h; exact rightfulStep_of_decoded (vendorFetch_rightful kind _)
  case h_2 k p hs => exact blockPhase_rightful hs finishOk_rightful h
  case h_3 => cases h

theorem vendorOut_rightful {kind : MetaKind} {s t : State} (h : vendorOut kind s = .next t) : RightfulStep s t := by
  unfold vendorOut at h
  split at h
  case h_1 => exact firstBlock_rightful h
  case h_2 k p hs => exact blockPhase_rightful hs (goto_rightful _) h
  case h_3 => cases h; exact metaPutCall_rightful kind _ s
  case h_4 => cases h

theorem execRequestSense_rightful {f : Fields} {s t : State} (h : execRequestSense f s = .next t) :
    RightfulStep s t := by
  unfold execRequestSense at h
  split at h
  case h_1 => exact firstBytesIn_rightful h
  case h_2 rest p hs => exact bytesInPhase_rightful hs h
  case h_3 => cases h

theorem execInquiry_rightful {f : Fields} {s t : State} (h : execInquiry f s = .next t) : RightfulStep s t := by
  unfold execInquiry at h
  split at h
  case h_1 => exact firstBytesIn_rightful h
  case h_2 rest p hs => exact bytesInPhase_rightful hs h
  case h_3 => cases h

theorem execTranslate_rightful {f : Fields} {s t : State} (h : execTranslate f s = .next t) : RightfulStep s t := by
  unfold execTranslate at h
  split at h
  case h_1 => cases h; exact rightfulStep_of_decoded (metaGetBytes_rightful _ _ _)
  case h_2 rest p hs => exact bytesInPhase_rightful hs h
  case h_3 => cases h

theorem execModeSense_rightful {f : Fields} {s t : State} (h : execModeSense f s = .next t) : RightfulStep s t := by
  unfold execModeSense at h
  split at h
  case h_1 => cases h; exact rightfulStep_of_decoded (metaGetBytes_rightful _ _ _)
  case h_2 rest p hs => exact bytesInPhase_rightful hs h
  case h_3 => cases h

theorem execModeSelect_rightful {f : Fields} {s t : State} (h : execModeSelect f s = .next t) :
    RightfulStep s t := by
  unfold execModeSelect at h
  split at h
  case h_1 =>
    split at h
    · cases h; exact rightfulStep_of_decoded (metaPutCall_rightful _ _ _)
    · cases h; exact rightfulStep_of_decoded (dataBoundary_rightful _ _ _)
  case h_2 rest q p hs => exact bytesOutPhase_rightful hs h
  case h_3 q _ => cases h; exact metaPutCall_rightful _ q s
  case h_4 => cases h

/-- Every command's step, whichever position it is taken at. -/
theorem exec_rightfulStep {i : Instr} {s t : State} (h : exec i s = .next t) : RightfulStep s t := by
  cases i with
  | testUnitReady f => exact readinessCheck_rightful h
  | rezeroUnit f => exact readinessCheck_rightful h
  | requestSense f => exact execRequestSense_rightful h
  | format f => exact metaCommand_rightful h
  | read6 f => exact execRead6_rightful h
  | write6 f => exact execWrite6_rightful h
  | seek f => exact readinessCheck_rightful h
  | translate f => exact execTranslate_rightful (f := f) h
  | inquiry f => exact execInquiry_rightful h
  | modeSelect f => exact execModeSelect_rightful h
  | modeSense f => exact execModeSense_rightful h
  | startStop f => exact metaCommand_rightful h
  | verify f => exact execVerify_rightful h
  | select f => exact metaCommand_rightful h
  | fcodeRead f => exact vendorIn_rightful h
  | fcodeWrite f => exact vendorOut_rightful h
  | vSense f => exact vendorIn_rightful h
  | vSelect f => exact vendorOut_rightful h
  | vPath f => exact vendorOut_rightful h
  | vInfo f => exact vendorIn_rightful h
  | vRead f => exact vendorIn_rightful h
  | illegal op f => exact execIllegal_rightful (op := op) (f := f) h

/-- Settles O38: what the work leaves alone the move of control leaves alone too, but for the results at the return. -/
theorem handlerRights : Obligations.HandlerRights := by
  intro i s t h
  cases exec_rightfulStep h with
  | goesOn hw k =>
    exact ⟨hw.bsy, hw.lunValid, hw.curLun, hw.selByte, hw.cdb, hw.rstPending, hw.host, hw.resetFlag, .inr ⟨k, rfl⟩,
      fun _ => ⟨hw.sense, hw.status⟩⟩
  | returnsOk hw =>
    exact ⟨hw.bsy, hw.lunValid, hw.curLun, hw.selByte, hw.cdb, hw.rstPending, hw.host, hw.resetFlag, .inl rfl,
      fun hne => absurd rfl hne⟩
  | returnsFail hw code =>
    exact ⟨hw.bsy, hw.lunValid, hw.curLun, hw.selByte, hw.cdb, hw.rstPending, hw.host, hw.resetFlag, .inl rfl,
      fun hne => absurd rfl hne⟩

/-- Settles O39: a return writes one of the results of R223, to the record of the LUN that the work has kept. -/
theorem dispatchResult : Obligations.DispatchResult := by
  intro i s t h hret
  cases exec_rightfulStep h with
  | goesOn hw k => cases hret
  | returnsOk hw =>
    refine ⟨s.cfg.senseCodes.noSense, ?_, .inl ⟨congrArg Config.statusGood hw.cfg, rfl⟩⟩
    rw [finishOk_sense]
    simp [hw.sense, hw.curLun, hw.cfg, SenseRec.cleared, SenseRec.ofCode]
  | returnsFail hw code =>
    refine ⟨code, ?_, .inr (congrArg Config.statusCheckCondition hw.cfg)⟩
    rw [finish_sense]
    simp [hw.sense, hw.curLun, failResult, SenseRec.ofCode]

/-! ### A transfer that fails -/

/-- Settles O60: the abort's step in each data procedure, and the return that follows it. -/
theorem shortTransferEndsHandler : Obligations.ShortTransferEndsHandler := by
  intro i k moved s hk hi hs
  obtain ⟨dir, j, rfl, hn, rfl⟩ | ⟨b, r, rfl, rfl⟩ | ⟨r, q, rfl, rfl⟩ := hk
  · have habort : blockMove dir .abort s = .short (emit (.blockMoved dir s.n) (setReq false s)) :=
      blockMove_of_failed hn rfl
    simp only [exec_block hs hi, blockPhase, habort]
    rfl
  · exact exec_bytesIn hs hi
  · exact exec_bytesOut hs hi

/-! ### A block is stored only when it is complete -/

/-- A byte from the host is over with its sample (RB4, TB4). -/
theorem hsStep_fromHost_done {bd : Bool} {b c : Byte} {w : Hs} {s u : State}
    (h : hsStep .fromHost bd b w s = .done c u) : w = .sample := by
  cases w with
  | idle => simp only [hsStep, startRead] at h; split_ifs at h
  | req => simp only [hsStep, startRead] at h; split_ifs at h
  | wait => rw [pollDecides] at h; split_ifs at h
  | sample => rfl
  | _ => cases h

/-- The block procedure of R206 makes no call, and leads to the storage call with its 256th sample only. -/
theorem blockPhase_fromHost_call {k : Nat} {p : DataPos} {s t : State}
    (h : blockPhase .fromHost k p (goto (.handler (.call k))) s = .next t) :
    t.calls = s.calls ∧
      ∀ j, t.seq = .handler (.call j) → j = k ∧ p = .dp2 .sample ∧ s.n = 255 ∧ t.n = 256 := by
  obtain ⟨-, rfl⟩ | ⟨-, -, rfl⟩ | ⟨w, rfl, -, hc⟩ := blockPhase_cases h
  · rw [dataBoundary_eq]
    split <;> exact ⟨rfl, nofun⟩
  · exact ⟨rfl, nofun⟩
  · obtain ⟨w', u, hu, rfl⟩ | ⟨b, u, w', v, hu, hb, rfl⟩ | ⟨b, u, v, hu, hb, rfl⟩ | ⟨u, hu, rfl⟩ := hc
    · have hf : EngineFrame s u := hsStep_frame (by rw [hu]; rfl)
      exact ⟨hf.calls, nofun⟩
    · have hf : EngineFrame s u := hsStep_frame (by rw [hu]; rfl)
      obtain ⟨m, -, ⟨-, heq⟩ | ⟨-, heq⟩⟩ := byteDone_cases .fromHost b u <;> cases hb.symm.trans heq
      exact ⟨hf.calls, nofun⟩
    · have hf : EngineFrame s u := hsStep_frame (by rw [hu]; rfl)
      obtain ⟨m, -, ⟨hn, heq⟩ | ⟨-, heq⟩⟩ := byteDone_cases .fromHost b u <;> cases hb.symm.trans heq
      have hlast : s.n = 255 := by rw [hf.n, blockSize] at hn; omega
      refine ⟨hf.calls, fun j hj => ⟨?_, congrArg DataPos.dp2 (hsStep_fromHost_done hu), hlast, hn⟩⟩
      cases hj
      rfl
    · have hf : EngineFrame s u := hsStep_frame (by rw [hu]; rfl)
      exact ⟨hf.calls, nofun⟩

theorem metaPutCall_seq (kind : MetaKind) (bs : List Byte) (s : State) : (metaPutCall kind bs s).seq = .disp1 := by
  rw [metaPutCall_eq]
  split <;> rfl

/-- After WRITE6's call comes the next block or the return, not another call. -/
theorem write6Store_seq_ne_call (f : Fields) (k j : Nat) (s : State) :
    (write6Store f k s).seq ≠ .handler (.call j) := by
  rw [write6Store_eq]
  split
  · nofun
  · split <;> nofun

/-- A step of a command that stores blocks: it asks for the first one, a block crosses the bus, or a block is complete
and stored (R231, R242). -/
inductive BlockOutStep (s t : State) : Prop where
  | asks (h : t = dataBoundary .fromHost (.block .fromHost 0 .dp1) (decoded s))
  | moves (k : Nat) (p : DataPos) (hs : s.seq = .handler (.block .fromHost k p))
      (h : blockPhase .fromHost k p (goto (.handler (.call k))) s = .next t)
  | stores (k : Nat) (hs : s.seq = .handler (.call k)) (h : ∀ j, t.seq ≠ .handler (.call j))

theorem execWrite6_blockOutStep {f : Fields} {s t : State} (h : execWrite6 f s = .next t) : BlockOutStep s t := by
  unfold execWrite6 at h
  split at h
  case h_1 => cases h; exact .asks rfl
  case h_2 k p hs => exact .moves k p hs h
  case h_3 k hs => cases h; exact .stores k hs fun j => write6Store_seq_ne_call f k j s
  case h_4 => cases h

theorem vendorOut_blockOutStep {kind : MetaKind} {s t : State} (h : vendorOut kind s = .next t) :
    BlockOutStep s t := by
  unfold vendorOut at h
  split at h
  case h_1 => cases h; exact .asks rfl
  case h_2 k p hs => exact .moves k p hs h
  case h_3 k hs => cases h; exact .stores k hs fun j => by rw [metaPutCall_seq]; nofun
  case h_4 => cases h

theorem exec_blockOutStep {i : Instr} {f : Fields} {s t : State}
    (hi : i = .write6 f ∨ i = .fcodeWrite f ∨ i = .vSelect f ∨ i = .vPath f) (h : exec i s = .next t) :
    BlockOutStep s t := by
  obtain rfl | rfl | rfl | rfl := hi
  · exact execWrite6_blockOutStep h
  · exact vendorOut_blockOutStep h
  · exact vendorOut_blockOutStep h
  · exact vendorOut_blockOutStep h

/-- Settles O40: a call is made where a block is complete, and that point is reached with the 256th sample. -/
theorem partialBlockNeverPersisted : Obligations.PartialBlockNeverPersisted := by
  intro i f s t hi h
  cases exec_blockOutStep hi h with
  | asks h =>
    rw [h, dataBoundary_eq]
    split <;> exact ⟨fun hc => absurd rfl hc, nofun⟩
  | moves k p hs h =>
    obtain ⟨hcalls, hcall⟩ := blockPhase_fromHost_call h
    refine ⟨fun hc => absurd hcalls hc, fun j hj => ?_⟩
    obtain ⟨rfl, rfl, hn, hn'⟩ := hcall j hj
    exact ⟨hn, hn', hs⟩
  | stores k hs hne => exact ⟨fun _ => ⟨k, hs⟩, fun j hj => absurd hj (hne j)⟩

end Sys2Proof.Machine
end

section
/-! PROOF. The reset exception (R280, R281): the host's edge of RST is latched, and the Reset Monitor turns the latch
into the Reset Flag. Beside it the sense codes of the storage errors (R275). -/

namespace Sys2Proof.Machine

/-! ### The latch of RST's edge -/

/-- R280: the latch is set by an edge of RST from de-asserted to asserted, and otherwise stays as it was. -/
theorem rstCapture_eq_ite (pending asserted held : Bool) :
    (pending || (asserted && !held)) = if asserted = true ∧ held = false then true else pending := by
  split
  case isTrue hedge =>
    obtain ⟨rfl, rfl⟩ := hedge
    exact Bool.or_true pending
  case isFalse hno =>
    have hnone : (asserted && !held) = false := by simpa using hno
    rw [hnone, Bool.or_false]

theorem hostLine_rst (a : Bool) (s : State) :
    hostLine .rst a s =
      { s with
        host := { s.host with rst := a }
        rstPending := if a = true ∧ s.host.rst = false then true else s.rstPending } := by
  rw [← rstCapture_eq_ite]
  rfl

/-- Settles O30: the host's step on RST moves the line, and the latch by the edge. -/
theorem rstEdgeCapture : Obligations.RstEdgeCapture := fun a s => congrArg Host.Outcome.next (hostLine_rst a s)

/-! ### The Reset Monitor -/

/-- R281: MON's step where it is enabled. -/
theorem monStep_of_pending {s : State} (hp : s.rstPending = true) :
    monStep s = { s with resetFlag := true, rstPending := false, diag := .error .hostReset :: s.diag } :=
  if_pos hp

/-- Settles O29: the pending edge enables MON, whose step is then `monStep_of_pending`. -/
theorem resetMonitorStep : Obligations.ResetMonitorStep := fun _ hp =>
  congrArg Host.Outcome.next (monStep_of_pending hp)

end Sys2Proof.Machine

namespace Sys2Proof

/-! ### Sense codes of the storage errors -/

/-- Settles O44: each of the three kinds by its row of the mapping (D29). -/
theorem storageErrorMapping : Obligations.StorageErrorMapping := fun _ => ⟨rfl, rfl, rfl⟩

end Sys2Proof
end

section
/-! PROOF. The table of the two resets (R310, R311): power-on by the state's own fields (R41), bus reset by the state
that `RST1` and `RST3` leave together. -/

namespace Sys2Proof.Machine

/-- R199, R200: everything that Reset handling writes; the rest of the bus-reset column is "U", left as it was. -/
theorem resetReturn_resetEntry (s : State) :
    resetReturn (resetEntry s) =
      { s with
        out := .released
        dbDir := .input
        resetFlag := false
        lunValid := false
        phase := .busFree
        seq := .bf1
        sense := Vector.replicate 8 (.cleared s.cfg.senseCodes)
        diag := .phaseEntry .busFree :: .phaseEntry .busFree :: s.diag } := rfl

/-- Reset handling takes the two steps of SEQ and shows the host no byte. -/
theorem play_resetHandling {s : State} (hs : s.seq = .rst1) :
    play [.seq, .seq] s = ([], .next (resetReturn (resetEntry s))) :=
  play_seq (seqStep_rst1 hs) (play_seq (seqStep_rst3 (resetEntry_seq s)) rfl)

/-- Settles O28: the power-on column is read off `State.reset`, the bus-reset column off `resetReturn_resetEntry`. -/
theorem resetTable : Obligations.ResetTable := by
  refine ⟨⟨rfl, rfl, rfl, rfl, rfl, rfl, rfl, rfl⟩, fun s hs => ?busReset⟩
  have hplay := play_resetHandling hs
  rw [resetReturn_resetEntry] at hplay
  exact ⟨_, hplay, rfl, rfl, rfl, rfl, rfl, rfl, rfl, rfl, rfl, rfl, rfl, rfl, rfl, rfl, rfl, rfl, rfl⟩

end Sys2Proof.Machine
end
